-- ==== Sys2Proof/Word.lean ====
section
/-! DEFINITION. The word types of the FJ7420: bytes of the lane, slot samples, keys. Nothing else. -/

namespace Sys2Proof

/-- One byte of a frame or of a packet (chapter 11). -/
abbrev Byte := BitVec 8

/-- A 24-bit slot or port sample as it stands in a frame, two's complement (R2, 11.1). -/
abbrev RawSample := BitVec 24

/-- A 16-bit key (R178, R22). -/
abbrev Key := BitVec 16

end Sys2Proof
end

