-- ==== Sys2Proof/Syntax.lean ====
section
/-! DEFINITION. The commands of the FJ7420: one constructor of `Instr` for each row of
spec/opcode_table.json, with what the row's event or packet carries. -/

namespace Sys2Proof

/-- One of the 64 slots of a frame: three sample bytes and the status byte (11.1). -/
structure Slot where
  sample : RawSample
  status : Byte
  deriving DecidableEq, Repr

/-- A Span frame as it arrives at chain-in (11.1, R193). The pattern of the sync marker is not
given by the spec, so the frame says whether its marker is the right one. -/
structure ChainFrame where
  syncGood : Bool
  slots : List Slot
  laneControl : Byte
  laneBytes : List Byte
  check : Byte
  deriving DecidableEq, Repr

/-- The levels of the five contact inputs; true is active, that is driven low (11.6, R142). -/
structure Contacts where
  evac : Bool
  o1 : Bool
  o2 : Bool
  o3 : Bool
  o4 : Bool
  deriving DecidableEq, Repr

/-- Everything that comes from outside in one frame period: the frame found at chain-in, or none
(R164); the contact levels; and the delay-memory words whose parity an upset broke in this period
(R83, R100), by address 0 to 98,303. -/
structure FrameInput where
  arriving : Option ChainFrame
  contacts : Contacts
  upsets : List Nat
  deriving DecidableEq, Repr

/-- The strap pins latched at power-up (R191, 11.6). -/
structure Straps where
  address : BitVec 6
  fallback : Bool
  deriving DecidableEq, Repr

/-- The manner in which a packet was taken (R170). -/
inductive Manner where
  | sole
  | broadcast
  | group
  deriving DecidableEq, Repr

/-- A taken request packet less its kind, as the port pair hands it to the request engine
(R170, R177, R192). -/
structure Packet where
  manner : Manner
  source : Byte
  tag : Byte
  key : Key
  body : List Byte
  deriving DecidableEq, Repr

/-- The commands, in the table's order. Events name the subject they fall on; requests carry the
taken packet, whose body is laid out as R194 and R195 give. -/
inductive Instr where
  | powerUpReset (straps : Straps) (contacts : Contacts)
  | frame (input : FrameInput)
  | localFrame (input : FrameInput)
  | chainLost
  | chainRegained
  | localPortWord (word : RawSample)
  | localPortAbsent
  | blockBoundary
  | floorRise (area position : Nat)
  | gateHoldExpiry (area position : Nat)
  | leadChange (area : Nat)
  | restFadeEnd (area : Nat)
  | steeringRequest (area : Nat)
  | dipStart (area : Nat)
  | dipMidpoint (area : Nat)
  | transitionComplete (area : Nat)
  | restCancelDecision (area : Nat)
  | allocationClearEnd
  | flushEnd
  | resetAudioEnd
  | imageSaveEnd
  | imageLoadFirstPassEnd
  | imageLoadSecondPassEnd
  | fallbackInstall
  | fadeOutEnd (zone : Nat)
  | settleEnd (zone : Nat)
  | fadeInEnd (zone : Nat)
  | provingLock
  | provingLoss
  | provingWindowEnd
  | countdownExpiry
  | overrideRelease
  | readStatus (packet : Packet)
  | clearStatus (packet : Packet)
  | setNoticeMask (packet : Packet)
  | readMonitor (packet : Packet)
  | writePlan (packet : Packet)
  | readPlan (packet : Packet)
  | take (packet : Packet)
  | discard (packet : Packet)
  | wakeArea (packet : Packet)
  | restArea (packet : Packet)
  | writeDistances (packet : Packet)
  | readDistances (packet : Packet)
  | setAirTemperature (packet : Packet)
  | setAllocation (packet : Packet)
  | flushLine (packet : Packet)
  | setZoneMode (packet : Packet)
  | setProving (packet : Packet)
  | insertProvingError (packet : Packet)
  | readProving (packet : Packet)
  | clearProvingCount (packet : Packet)
  | setOverrideProgramme (packet : Packet)
  | overrideEnable (packet : Packet)
  | extendOverride (packet : Packet)
  | cancelOverride (packet : Packet)
  | evacClear (packet : Packet)
  | setLocalPort (packet : Packet)
  | setSlotMap (packet : Packet)
  | setGroupFilter (packet : Packet)
  | setUnitKey (packet : Packet)
  | resetAudio (packet : Packet)
  | resetPlans (packet : Packet)
  | resetReporting (packet : Packet)
  | saveImage (packet : Packet)
  | loadImage (packet : Packet)
  | standby (packet : Packet)
  | wakeUnit (packet : Packet)
  | unknownKind (kind : Byte) (packet : Packet)
  | nonRequestPacket (kind : Byte) (packet : Packet)
  | lossOfPower
  deriving DecidableEq, Repr

end Sys2Proof
end

