-- ==== Sys2Proof/Decode.lean ====
section
/-! DEFINITION. The layouts of the wire: the frame check and packet check (R193), the packet's fields
(R167, R192), and the fixed name `decodeTableWord`. The opcode table gives no row any bits: a command is
an event or a packet, so no word spells one. -/

namespace Sys2Proof

/-! ## Checks (R193) -/

/-- One step of the 8-bit CRC, generator x^8 + x^2 + x + 1, on the register's next bit. -/
def crc8Shift (r : Nat) : Nat := if 128 ≤ r then ((2 * r) % 256) ^^^ 7 else 2 * r

/-- The 8-bit CRC register after one more byte, bits taken most significant first. -/
def crc8Byte (r : Nat) (b : Byte) : Nat :=
  crc8Shift (crc8Shift (crc8Shift (crc8Shift (crc8Shift (crc8Shift (crc8Shift (crc8Shift
    (r ^^^ b.toNat))))))))

/-- R193: the frame check, register preset to 0. -/
def crc8 (bytes : List Byte) : Byte := BitVec.ofNat 8 (bytes.foldl crc8Byte 0)

/-- One step of the 16-bit CRC, generator x^16 + x^12 + x^5 + 1. -/
def crc16Shift (r : Nat) : Nat := if 32768 ≤ r then ((2 * r) % 65536) ^^^ 4129 else 2 * r

/-- The 16-bit CRC register after one more byte, bits taken most significant first. -/
def crc16Byte (r : Nat) (b : Byte) : Nat :=
  crc16Shift (crc16Shift (crc16Shift (crc16Shift (crc16Shift (crc16Shift (crc16Shift (crc16Shift
    (r ^^^ (b.toNat * 256)))))))))

/-- R193: the packet check, register preset to all ones, with no final inversion. -/
def crc16 (bytes : List Byte) : Nat := bytes.foldl crc16Byte 65535

/-- R193: the packet check as its two bytes, most significant first. -/
def crc16Bytes (bytes : List Byte) : List Byte :=
  [BitVec.ofNat 8 (crc16 bytes / 256), BitVec.ofNat 8 (crc16 bytes)]

/-! ## Frames (11.1) -/

/-- 11.1: a slot's four bytes, the sample most significant byte first, then the status byte. -/
def Slot.bytes (x : Slot) : List Byte :=
  [x.sample.extractLsb' 16 8, x.sample.extractLsb' 8 8, x.sample.extractLsb' 0 8, x.status]

/-- R193: the 261 bytes the frame check covers. -/
def checkedBytes (slots : List Slot) (laneControl : Byte) (laneBytes : List Byte) : List Byte :=
  slots.flatMap Slot.bytes ++ [laneControl] ++ laneBytes

/-- R164, R193: the frame's sync marker and check are both good. -/
def ChainFrame.good (f : ChainFrame) : Bool :=
  f.syncGood && crc8 (checkedBytes f.slots f.laneControl f.laneBytes) == f.check

/-- 11.1: the packet-start flag of a lane control. Bits 6 to 3 are not looked at (log entry 53). -/
def laneStart (c : Byte) : Bool := c.getLsbD 7

/-- 11.1: the byte count of a lane control, whatever bits 6 to 3 hold (log entry 53). -/
def laneCount (c : Byte) : Nat := (c.extractLsb' 0 3).toNat

/-- 11.1: a lane control byte. -/
def laneControlOf (start : Bool) (count : Nat) : Byte :=
  BitVec.ofNat 8 ((if start then 128 else 0) + count)

/-! ## Packets (R167, R192) -/

/-- R192: the group flag of a destination byte. -/
def groupFlag (dest : Byte) : Bool := dest.getLsbD 7

/-- R192: the address bits of a destination byte. -/
def addressOf (dest : Byte) : BitVec 6 := dest.extractLsb' 0 6

/-- R167: the bytes before the body. -/
def headerLength (dest : Byte) : Nat := if groupFlag dest then 9 else 7

/-- R167: the place of the source byte. -/
def sourceIndex (dest : Byte) : Nat := if groupFlag dest then 3 else 1

/-- R167: the place of the length byte. -/
def lengthIndex (dest : Byte) : Nat := if groupFlag dest then 6 else 4

/-- R171: the folded index of a group tag. -/
def foldedIndex (t : BitVec 16) : Nat := ((t ^^^ (t >>> 6) ^^^ (t >>> 12)).extractLsb' 0 6).toNat

/-- R192: the destination of a packet. -/
def destOf (bytes : List Byte) : Byte := bytes.headD 0

/-- R192: the group tag of a packet that has one. -/
def groupTagOf (bytes : List Byte) : BitVec 16 := bytes.getD 1 0 ++ bytes.getD 2 0

/-- R192: the source of a packet. -/
def sourceOfPacket (bytes : List Byte) : Byte := bytes.getD (sourceIndex (destOf bytes)) 0

/-- R170: the check bytes of a complete packet are those of the bytes before them. -/
def checkGood (bytes : List Byte) : Bool :=
  crc16Bytes (bytes.take (bytes.length - 2)) == bytes.drop (bytes.length - 2)

/-- R192: a complete packet's kind and what the port pair hands on of it, taken in a manner. -/
def parsePacket (manner : Manner) (bytes : List Byte) : Byte × Packet :=
  let i := sourceIndex (destOf bytes)
  (bytes.getD (i + 2) 0,
    { manner := manner
      source := bytes.getD i 0
      tag := bytes.getD (i + 1) 0
      key := bytes.getD (i + 4) 0 ++ bytes.getD (i + 5) 0
      body := (bytes.drop (i + 6)).take (bytes.getD (i + 3) 0).toNat })

/-- R192, R193: the bytes of a packet that the part sends: group flag clear, key 0, check computed. -/
def packetBytes (dest source tag kind : Byte) (body : List Byte) : List Byte :=
  let b := [dest, source, tag, kind, BitVec.ofNat 8 body.length, 0, 0] ++ body
  b ++ crc16Bytes b

/-! ## The opcode table -/

/-- The command a word of the opcode table spells. No row of the table gives bits, so no word spells
one. -/
def decodeTableWord (_nbits _w : Nat) : Option Instr := none

end Sys2Proof
end

