-- ==== Sys2Proof/Machine/Arith.lean ====
section
/-! DEFINITION. The arithmetic every block shares: rounding (R4), saturation (R2), the gain law (R3),
weighted pairs (R5), the block level (R32), the open-microphone attenuation (R50), the speed of sound
and the geometric delay (R70, R71), and small list helpers. -/

namespace Sys2Proof.Machine

/-- R2: full scale. -/
def fullScale : Int := 8388607

/-- R2: saturation, to the symmetric range. -/
def saturate (x : Int) : Int := max (-fullScale) (min fullScale x)

/-- R4: round(a / b), ties toward plus infinity, for b above 0. -/
def roundDiv (a : Int) (b : Nat) : Int := (2 * a + b) / (2 * b)

/-- The limit of a value to a range, as R11 clamps a numeric value. -/
def clampInt (lo hi x : Int) : Int := max lo (min hi x)

/-- Powers of ten with the exponent halved, so that no large power stands as one literal exponent. -/
def pow10 (n : Nat) : Nat := 10 ^ (n / 2) * 10 ^ (n - n / 2)

/-- The greatest r below `r + 2 ^ k` whose 80th power does not pass x, built bit by bit. -/
def rootBits : Nat → Nat → Nat → Nat
  | 0, r, _ => r
  | k + 1, r, x => if (r + 2 ^ k) ^ 80 ≤ x then rootBits k (r + 2 ^ k) x else rootBits k r x

/-- The floor of the 80th root of a number below 2 ^ 2080. -/
def root80 (x : Nat) : Nat := rootBits 26 0 x

/-- R3: the multiplier of a gain of q qdB, round(2^20 × 10^(q/80)), and 0 at −480. The root taken is
that of 2^21 × 10^(q/80), because round(v) = floor((floor(2v) + 1) / 2). -/
def gainMul (q : Int) : Nat :=
  if q ≤ -480 then 0
  else if 0 ≤ q then (root80 ((2 ^ 21) ^ 80 * pow10 q.toNat) + 1) / 2
  else (root80 ((2 ^ 21) ^ 80 / pow10 (-q).toNat) + 1) / 2

/-- R3: the gain law, the product left unsaturated. -/
def applyGain (q x : Int) : Int := roundDiv (x * gainMul q) 1048576

/-- R5: the weighted pair of a and b with weight w, saturated. -/
def weightedPair (a b : Int) (w : Nat) : Int :=
  saturate (roundDiv (a * (4096 - (w : Int)) + b * (w : Int)) 4096)

/-- R32: whether a peak p lies more than m qdB below full scale. -/
def belowBy (p m : Nat) : Bool := pow10 m * p ^ 80 < 8388607 ^ 80

/-- The number of steps of 1 qdB by which a peak lies below full scale, up to 480, bit by bit. -/
def levelBits : Nat → Nat → Nat → Nat
  | 0, c, _ => c
  | k + 1, c, p =>
    if c + 2 ^ k ≤ 480 ∧ belowBy p (c + 2 ^ k - 1) = true then levelBits k (c + 2 ^ k) p
    else levelBits k c p

/-- R32: the block level of a block whose largest magnitude is p, in qdB. -/
def blockLevel (p : Nat) : Int := if p = 0 then -480 else -(levelBits 9 0 p : Int)

/-- R50: the values of A(NOM) = round(40 × log10 NOM) for NOM 1 to 24. -/
def attenuationTable : List Int :=
  [0, 12, 19, 24, 28, 31, 34, 36, 38, 40, 42, 43, 45, 46, 47, 48, 49, 50, 51, 52, 53, 54, 54, 55]

/-- R50: the attenuation of NOM open microphones. -/
def attenuation (nom : Nat) : Int := attenuationTable.getD (nom - 1) 0

/-- R70: the speed of sound in cm/s at T_used tenths of a degree. -/
def speedOfSound (t : Int) : Int := 33130 + roundDiv (606 * t) 100

/-- R71: the geometric delay of a pair at a speed of sound c; an absent distance gives 0. -/
def geometricDelay (distance : Option Nat) (c : Int) : Nat :=
  match distance with
  | none => 0
  | some s => (roundDiv ((s : Int) * 48000) c.toNat).toNat

/-- R90: the weight of sample k of a ramp of length m that rises to unity. -/
def rampWeight (k m : Nat) : Nat := 4096 * (k + 1) / m

/-- R92: the dip weight of sample k of a dip. -/
def dipRamp (k : Nat) : Nat :=
  if k < 768 then 4096 - 4096 * (k + 1) / 768 else 4096 * (k - 767) / 768

/-- R113: the fade weight at progress j of a fade of length m. -/
def fadeWeight (j m : Nat) : Nat := 4096 * j / m

/-- A counter of the status record, 16 bits and saturating (R181). -/
def sat16 (n : Nat) : Nat := min n 65535

/-- R181: one flag of a set of sticky flags, set. -/
def setBit {w : Nat} (v : BitVec w) (i : Nat) : BitVec w := v ||| BitVec.twoPow w i

/-- Insertion into a rising list of indexes, which holds each at most once (R73). -/
def insertIndex (n : Nat) : List Nat → List Nat
  | [] => [n]
  | x :: xs => if n < x then n :: x :: xs else if n = x then x :: xs else x :: insertIndex n xs

/-- Drops the oldest entry of a history and appends the newest (R33, R164). -/
def shiftHistory (h : List Bool) (b : Bool) : List Bool := h.drop 1 ++ [b]

/-- The longest run of invalid entries in a history. -/
def longestFalseRun : List Bool → Nat → Nat → Nat
  | [], _, best => best
  | true :: t, _, best => longestFalseRun t 0 best
  | false :: t, cur, best => longestFalseRun t (cur + 1) (max best (cur + 1))

end Sys2Proof.Machine
end

