-- ==== Sys2Proof/Machine/State.lean ====
section
/-! DEFINITION. The state of the FJ7420 as plain data: every piece of state the spec gives each block,
the queue of waiting commands, and the machine right after a power-up reset. Fields that are the
model's own (no rule names them) say so. -/

namespace Sys2Proof.Machine

/-! ## Enumerations, each in the order of the rule that first lists it (R193) -/

/-- R33. -/
inductive Presence where
  | present
  | absent
  deriving DecidableEq, Repr

/-- R7: an area's service state. -/
inductive Service where
  | dormant
  | inService
  deriving DecidableEq, Repr

/-- R14: how a staged rank stands toward the live rank. -/
inductive StagedState where
  | clean
  | edited
  | held
  deriving DecidableEq, Repr

/-- R12: a member's kind. -/
inductive MemberKind where
  | speech
  | ensemble
  deriving DecidableEq, Repr

/-- R42: a gate. -/
inductive Gate where
  | closed
  | opened
  | hold
  deriving DecidableEq, Repr

/-- R55: the source of a lead. -/
inductive LeadSource where
  | speech
  | ensemble
  | rest
  deriving DecidableEq, Repr

/-- R86: the reason of a crossfade. -/
inductive Reason where
  | lead
  | retune
  deriving DecidableEq, Repr

/-- R86: the kind of a transition; a dip names the area whose take it is for. -/
inductive TransitionKind where
  | crossfade (reason : Reason)
  | dip (area : Nat)
  deriving DecidableEq, Repr

/-- R86: the phase of a steering record. -/
inductive Phase where
  | idle
  | settled
  | crossfade
  | dip
  | resting
  | faulted
  | resetting
  deriving DecidableEq, Repr

/-- R108: a zone's mode. -/
inductive Mode where
  | off
  | quiet
  | live
  | test
  | announce
  deriving DecidableEq, Repr

/-- R108: what a zone's level is doing. -/
inductive FadePhase where
  | steady
  | fadeOut
  | settle
  | fadeIn
  deriving DecidableEq, Repr

/-- R108: which settle runs. -/
inductive SettleKind where
  | leavingOff
  | enteringOff
  deriving DecidableEq, Repr

/-- R131: the proving detector's state. -/
inductive DetectorState where
  | idle
  | searching
  | locked
  deriving DecidableEq, Repr

/-- R193: the five override lines, EVAC first. -/
inductive OvLine where
  | evac
  | o1
  | o2
  | o3
  | o4
  deriving DecidableEq, Repr

/-- R140. -/
inductive Trigger where
  | edge
  | level
  deriving DecidableEq, Repr

/-- R140. -/
inductive Source where
  | localPort
  | slot
  deriving DecidableEq, Repr

/-- R140. -/
inductive CountStart where
  | atStart
  | atSourceEnd
  deriving DecidableEq, Repr

/-- R146: the state of an override record. -/
inductive OverrideState where
  | idle
  | requesting
  | active
  | ending
  deriving DecidableEq, Repr

/-- R146: a countdown. -/
inductive Countdown where
  | none
  | stopped
  | running (value : Nat)
  deriving DecidableEq, Repr

/-- R164: the chain-in state. -/
inductive ChainState where
  | tracking
  | lost
  deriving DecidableEq, Repr

/-- R168: a packet's forwarding decision. -/
inductive Decision where
  | pending
  | forward
  | strip
  deriving DecidableEq, Repr

/-- R194: the notice kinds, in the order of their codes from 128. -/
inductive NoticeKind where
  | keyFault
  | tapClamped
  | presence
  | clip
  | slip
  | chainLost
  | chainRegained
  | provingLocked
  | provingLost
  | takeFailed
  | leadChanged
  | takeApplied
  | retuneStarted
  | overrideStarted
  | overrideEnded
  | overrideDiscarded
  | lineFault
  | evacState
  | allocationDone
  | flushDone
  | imageSaved
  | imageLoaded
  | resetDone
  | powerUp
  | imageFailed
  deriving DecidableEq, Repr

/-- R181: the categories of flags and notices. -/
inductive Category where
  | protection
  | geometry
  | signal
  | requests
  | service
  | fatal
  deriving DecidableEq, Repr

/-- R179: the result codes. -/
inductive ResultCode where
  | done
  | clamped
  | held
  | started
  | busy
  | refusedKey
  | refusedRange
  | refusedConflict
  | refusedState
  | refusedPending
  | notActive
  | malformed
  | unknownKind
  deriving DecidableEq, Repr

/-- R196: the outcome of the power-up sequence and the reasons of failed checks. -/
inductive OutcomeCode where
  | image
  | fallback
  | blank
  | sum
  | range
  | memberConflict
  | zoneConflict
  | joinChain
  | allocation
  | slotConflict
  | pending
  deriving DecidableEq, Repr

/-- The blocks that post notices, for the order of R184. -/
inductive Block where
  | planStore
  | inputs
  | mixer
  | delay
  | steering
  | zones
  | proving
  | overrides
  | link
  | engine
  deriving DecidableEq, Repr

/-! ## Plans (chapter 1) -/

/-- R12: an entry of a member list. -/
structure Member where
  position : Nat
  kind : MemberKind
  trim : Int
  deriving DecidableEq, Repr

/-- R12: an entry of a zone list. -/
structure ZoneEntry where
  zone : Nat
  gain : Int
  deriving DecidableEq, Repr

/-- R12: a plan record. -/
structure Plan where
  areaKey : Key
  members : List Member
  zones : List ZoneEntry
  rest : Nat
  ensemble : Option Nat
  ensembleThreshold : Int
  openMargin : Int
  window : Int
  gateHold : Int
  offAttenuation : Int
  releaseRate : Int
  leadMargin : Int
  leadHold : Int
  crossfade : Int
  precedence : Int
  retune : Int
  guard : Int
  duck : Int
  areaGain : Int
  join : Option Nat
  startAwake : Bool
  deriving DecidableEq, Repr

/-- R12: the factory plan. -/
def Plan.factory : Plan :=
  { areaKey := 0, members := [], zones := [], rest := 0, ensemble := none, ensembleThreshold := -160,
    openMargin := 40, window := 48, gateHold := 400, offAttenuation := 60, releaseRate := 4,
    leadMargin := 24, leadHold := 250, crossfade := 64, precedence := 480, retune := 24, guard := 600,
    duck := 24, areaGain := 0, join := none, startAwake := false }

/-! ## Mixer and steering records (chapters 3 and 5) -/

/-- R42: a member record. The trim is that of the plan that lists the position (R41). -/
structure MemberRec where
  position : Nat
  kind : MemberKind
  trim : Int
  s : Int
  f : Int
  rise : Nat
  gate : Gate
  hold : Nat
  t : Int
  g : Int
  isNew : Bool
  deriving DecidableEq, Repr

/-- R55: a lead record. -/
structure Lead where
  position : Nat
  source : LeadSource
  deriving DecidableEq, Repr

/-- R55: a challenger. -/
structure Challenger where
  lead : Lead
  count : Nat
  deriving DecidableEq, Repr

/-- R86: an affected zone of a transition. A zone that had no tap before the transition, or has none
after it, has none here (R92, R99). -/
structure Affected where
  zone : Nat
  oldTap : Option Nat
  newTap : Option Nat
  deriving DecidableEq, Repr

/-- R86: a transition. `progress` counts the samples already sent, so it is k of the next sample;
`midDone` says that a dip's midpoint has been taken (R92), and `withdrawn` that DISCARD has removed the
take of a dip before its midpoint, which then applies nothing (R17). -/
structure Transition where
  kind : TransitionKind
  length : Nat
  progress : Nat
  zones : List Affected
  midDone : Bool
  withdrawn : Bool
  deriving DecidableEq, Repr

/-- One area: its two ranks and service state (R7, R14), its mixer (R42, R49, R47, R52, R55) and its
steering record (R86). `posted` is a steering request posted at the boundary just taken and `due` one
that the next boundary takes (R88). `decisionDue` is the decision that follows a cancelled rest fade (R98)
and `checkDue` a retune check that a release owes (R87). -/
structure Area where
  staged : Plan
  live : Plan
  stagedState : StagedState
  service : Service
  restCount : Nat
  records : List MemberRec
  lead : Lead
  challenger : Option Challenger
  leadLevel : Int
  nom : Nat
  speechTop : Int
  ensembleLevel : Int
  transition : Option Transition
  pendingRequest : Bool
  posted : Bool
  due : Bool
  decisionDue : Bool
  checkDue : Bool
  deriving DecidableEq, Repr

/-! ## Input channels (chapter 2) -/

/-- A position channel or the announce channel (R30, R32, R33). `valid` counts the valid raw samples
of the block so far and `peak` is the largest magnitude of its concealed samples so far; `concealed`
is the present frame's concealed sample. -/
structure Channel where
  presence : Presence
  history : List Bool
  held : Int
  run : Nat
  valid : Nat
  peak : Nat
  level : Int
  concealed : Int
  deriving DecidableEq, Repr

/-- R27: the slot map. -/
structure SlotMap where
  positions : List (Option Nat)
  zones : List (Option Nat)
  announce : Option Nat
  sense : Option Nat
  deriving DecidableEq, Repr

/-- The local announce port and its elastic store (R35, R36). `reading` says that frames read the
store and `resume` that they do so from the next frame on; `wordSeen` that a word has come in this
frame; `turns` holds the changes of presence not yet handed on at a boundary (R34). -/
structure Port where
  depth : Nat
  presence : Presence
  silent : Nat
  store : List Int
  lastRead : Int
  reading : Bool
  resume : Bool
  slipPending : Bool
  wordSeen : Bool
  turns : List Presence
  deriving DecidableEq, Repr

/-! ## Delay computer and delay memory (chapters 4 and 5) -/

/-- The delay computer (R66, R69, R72, R73, R74). The dirty set is a rising list of indexes. -/
structure DelayComputer where
  distances : List (Option Nat)
  requested : Int
  used : Int
  delays : List Nat
  dirty : List Nat
  pointer : Nat
  deriving DecidableEq, Repr

/-- A word of the delay memory with its parity (R83). -/
structure MemWord where
  sample : Int
  parityBad : Bool
  deriving DecidableEq, Repr

/-- A delay line (R81): its length in blocks, the place in its ring that is written next, and
whether it is faulted, which is its LINE_FAULT flag (R100). -/
structure DelayLine where
  length : Nat
  writeAt : Nat
  faulted : Bool
  deriving DecidableEq, Repr

/-! ## Zones and proving (chapters 6 and 7) -/

/-- R108: a zone record, with the zone's current tap (R86), its duck target (R59), its generator and
stored insert (R129, R130), the L6 bypass mark of R102, and what READ MONITOR reports of the last boundary
and of the last frame: wanted mode and row, fade weight, dip weight, combined weight, valid mark (R126). -/
structure Zone where
  home : Mode
  current : Mode
  phase : FadePhase
  next : Option Mode
  settleKind : SettleKind
  settleCount : Nat
  length : Nat
  progress : Nat
  short : Bool
  entered : Option OvLine
  announceTap : Nat
  dipWeight : Nat
  duckTarget : Int
  duck : Int
  tap : Option Nat
  bypass : Bool
  generator : BitVec 20
  insert : Bool
  wanted : Mode
  wantedRow : Nat
  lastFade : Nat
  lastDip : Nat
  lastWeight : Nat
  lastValid : Bool
  deriving DecidableEq, Repr

/-- The proving detector and the proving level (R128, R131, R133, R134, R135). Bits are newest first. -/
structure Proving where
  level : Int
  assignment : Option (Nat × Nat)
  state : DetectorState
  errors : Nat
  shadow : List Bool
  confirmed : Nat
  flywheel : List Bool
  progress : Nat
  mismatches : Nat
  deriving DecidableEq, Repr

/-! ## Overrides (chapter 8) -/

/-- R140: a programme. EVAC's programme uses source, position and gain; its target set is all zones. -/
structure Programme where
  trigger : Trigger
  source : Source
  targets : BitVec 16
  position : Option Nat
  gain : Int
  duration : Int
  countStart : CountStart
  tail : Int
  deriving DecidableEq, Repr

/-- R140: the factory programme of O1 to O4. -/
def Programme.factoryO : Programme :=
  { trigger := .edge, source := .localPort, targets := 0, position := none, gain := 0, duration := 100,
    countStart := .atStart, tail := 20 }

/-- R140: the factory programme of EVAC. -/
def Programme.factoryEvac : Programme :=
  { Programme.factoryO with targets := 0xFFFF#16 }

/-- One line and its override: programme, samples, latch (EDGE latch, or the EVAC latch), suppression
and record (R140, R142, R143, R145, R146). -/
structure Override where
  programme : Programme
  sample : Bool
  previous : Bool
  latch : Bool
  suppressed : Bool
  state : OverrideState
  copy : Option Programme
  countdown : Countdown
  durationInForce : Nat
  tailInForce : Nat
  deriving DecidableEq, Repr

/-- One thing for each of the five override lines. -/
structure PerLine (α : Type) where
  evac : α
  o1 : α
  o2 : α
  o3 : α
  o4 : α
  deriving DecidableEq, Repr

/-- What a line has. -/
def PerLine.get {α : Type} (p : PerLine α) : OvLine → α
  | .evac => p.evac
  | .o1 => p.o1
  | .o2 => p.o2
  | .o3 => p.o3
  | .o4 => p.o4

/-- Gives one line something else. -/
def PerLine.set {α : Type} (p : PerLine α) (l : OvLine) (a : α) : PerLine α :=
  match l with
  | .evac => { p with evac := a }
  | .o1 => { p with o1 := a }
  | .o2 => { p with o2 := a }
  | .o3 => { p with o3 := a }
  | .o4 => { p with o4 := a }

/-! ## The link (chapter 9) -/

/-- R168: the reception record. -/
structure Reception where
  bytes : List Byte
  extent : Option Nat
  decision : Decision
  deriving DecidableEq, Repr

/-- R172: one packet's run of bytes in the forward buffer; closed when no more will come. -/
structure Run where
  bytes : List Byte
  closed : Bool
  deriving DecidableEq, Repr

/-- R173: what the outgoing lane is sending. -/
inductive Sending where
  | idle
  | forwarding
  | sendingLocal (rest : List Byte)
  deriving DecidableEq, Repr

/-- R175: what the last frame's lane carried. -/
inductive LaneUse where
  | nothing
  | forwarded
  | own
  deriving DecidableEq, Repr

/-- The frame last sent on chain-out (R163, R165, R166, 11.1), less its sync marker. -/
structure SentFrame where
  slots : List Slot
  laneControl : Byte
  laneBytes : List Byte
  check : Byte
  deriving DecidableEq, Repr

/-- The port pair (R1, R164, R168, R171, R172, R173, R176). `inBlock` counts the frames of the present
block already sent; `stamp` is the frame counter of the frame last sent. -/
structure Link where
  address : BitVec 6
  counter : Nat
  stamp : Nat
  inBlock : Nat
  chain : ChainState
  badCount : Nat
  history : List Bool
  reception : Option Reception
  forward : List Run
  sending : Sending
  laneUse : LaneUse
  laneLeft : Nat
  groups : BitVec 64
  chainOut : Option SentFrame
  deriving DecidableEq, Repr

/-! ## Status, queue and long operations (chapter 10) -/

/-- A value of a reply's or notice's body with its width in bytes (R192, R194). -/
structure Field where
  bytes : Nat
  value : Int
  deriving DecidableEq, Repr

/-- An entry of the outgoing queue (R179, R184, R186). -/
structure Entry where
  dest : Byte
  tag : Byte
  kind : Byte
  body : List Field
  deriving DecidableEq, Repr

/-- A notice posted within the present command (R184). -/
structure Post where
  block : Block
  kind : NoticeKind
  subject : Nat
  value : List Field
  stamp : Nat
  deriving DecidableEq, Repr

/-- R181: the status record, less LINE_FAULT, which stands with the lines. -/
structure Status where
  keyFault : Bool
  tapClamped : BitVec 16
  presence : BitVec 26
  clip : BitVec 25
  slipOver : Bool
  slipUnder : Bool
  chain : Bool
  proving : Bool
  takeFailed : BitVec 6
  outQueueFull : Bool
  lead : BitVec 6
  takeApplied : BitVec 6
  retune : BitVec 6
  override : BitVec 5
  evac : Bool
  crcDrops : Nat
  requestsDropped : Nat
  noticesDropped : Nat
  keyFaults : Nat
  clips : List Nat
  zoneClips : List Nat
  busClips : List Nat
  slipsOver : Nat
  slipsUnder : Nat
  deriving DecidableEq, Repr

/-- The flags and counters of R181 all clear. -/
def Status.clear : Status :=
  { keyFault := false, tapClamped := 0, presence := 0, clip := 0, slipOver := false, slipUnder := false,
    chain := false, proving := false, takeFailed := 0, outQueueFull := false, lead := 0, takeApplied := 0,
    retune := 0, override := 0, evac := false, crcDrops := 0, requestsDropped := 0, noticesDropped := 0,
    keyFaults := 0, clips := List.replicate 25 0, zoneClips := List.replicate 16 0,
    busClips := List.replicate 6 0, slipsOver := 0, slipsUnder := 0 }

/-- A long operation (10.2): its remaining blocks, and whether the boundary after its request has
begun it. -/
structure Timer where
  remaining : Nat
  started : Bool
  deriving DecidableEq, Repr

/-- R188: what an image holds, less format mark and sum check. Values are as they stand in the memory,
so they may lie outside their ranges (R189). -/
structure ImageData where
  plans : List Plan
  distances : List (Option Nat)
  temperature : Int
  allocation : List Nat
  positionSlots : List (Option Nat)
  zoneSlots : List (Option Nat)
  announceSlot : Option Nat
  programmes : PerLine Programme
  enable : Bool
  groups : BitVec 64
  homes : List Mode
  unitKey : Key
  deriving DecidableEq, Repr

/-- The external image memory (R188, R189, R196): the two bytes it begins with, whether its sum check
matches, and what it holds. -/
structure ImageMemory where
  mark : Byte × Byte
  sumGood : Bool
  data : ImageData
  deriving DecidableEq, Repr

/-- R188: an image save in flight, with the items copied when the request was taken. -/
structure Save where
  timer : Timer
  copy : ImageData
  deriving DecidableEq, Repr

/-- R189 to R191: an image load in flight. -/
structure Load where
  timer : Timer
  second : Bool
  powerUp : Bool
  deriving DecidableEq, Repr

/-- The model's own: an event that its own command took at the boundary before BLOCK_BOUNDARY did,
so that BLOCK_BOUNDARY does not take it, or count it, again. `flushed`, `turned` and `loaded` say that a
flush ended, an override turned ENDING, or an image load loaded a countdown, at this boundary (R104, R150,
R151); `settings` holds the override enable and the programmes that an image load replaced at it (R141,
R144). -/
inductive Early where
  | floor (position : Nat)
  | gate (position : Nat)
  | lead (area : Nat)
  | settle (zone : Nat)
  | loadPass
  | resetEnd
  | flushed (line : Nat)
  | turned
  | loaded
  | settings (enable : Bool) (programmes : PerLine Programme)
  deriving DecidableEq, Repr

/-- The whole machine. -/
structure State where
  /-- The commands that wait, first in first out (the queue of the block's environment). -/
  pending : List Instr
  /-- Whether supply is applied (R188, R191). -/
  powered : Bool
  /-- The FALLBACK strap as latched (R191). -/
  fallbackStrap : Bool
  /-- The contact inputs as they stand (R142). -/
  contacts : Contacts
  /-- A0 to A5. -/
  areas : List Area
  /-- P0 to P23, then the announce channel. -/
  channels : List Channel
  slotMap : SlotMap
  port : Port
  delay : DelayComputer
  /-- L0 to L6. -/
  lines : List DelayLine
  /-- The delay memory's words by address, those not listed holding 0 with good parity. -/
  cells : List (Nat × MemWord)
  /-- Z0 to Z15. -/
  zones : List Zone
  proving : Proving
  overrides : PerLine Override
  overrideEnable : Bool
  /-- The override that holds the announce bus (R147). -/
  holder : Option OvLine
  standby : Bool
  /-- The standby state as the zones and the detector last took it at a boundary (R136, R159). -/
  standbyTaken : Bool
  link : Link
  status : Status
  unitKey : Key
  queue : List Entry
  sequence : BitVec 8
  kindMask : BitVec 25
  suppress : BitVec 6
  reporting : BitVec 6
  outcome : OutcomeCode
  audioReset : Option Timer
  allocClear : Option Timer
  /-- The line under flush and the flush's timer (R103). -/
  flush : Option (Nat × Timer)
  save : Option Save
  load : Option Load
  /-- The fallback plan awaits the first block boundary (R191). -/
  fallbackDue : Bool
  image : ImageMemory
  /-- The model's own: notices posted in the present command; empty between commands. -/
  posts : List Post
  /-- The model's own: events taken early at the present boundary. -/
  early : List Early
  /-- The model's own: counts the choices taken from the free values of Config. -/
  choices : Nat
  deriving DecidableEq, Repr

/-- Why the machine could stop. No command of the spec stops the part, so there is no reason. -/
inductive Fault where
  deriving DecidableEq, Repr

/-- Why a command could be refused by the model. -/
inductive Refusal where
  /-- Raised by `exec`'s arm of a command that has no meaning yet; safe. No arm raises it. -/
  | notModelled (mnemonic : String)
  deriving DecidableEq, Repr

/-! ## Reset values -/

/-- An area as RESET PLANS and power-up leave it (R25, R26, R58, R62, R107). -/
def Area.reset : Area :=
  { staged := Plan.factory, live := Plan.factory, stagedState := .clean, service := .dormant,
    restCount := 0, records := [], lead := ⟨0, .rest⟩, challenger := none, leadLevel := -480, nom := 1,
    speechTop := -480, ensembleLevel := -480, transition := none, pendingRequest := false,
    posted := false, due := false, decisionDue := false, checkDue := false }

/-- A channel after power-up (R40). -/
def Channel.reset : Channel :=
  { presence := .absent, history := List.replicate 32 false, held := 0, run := 0, valid := 0, peak := 0,
    level := -480, concealed := 0 }

/-- R27: the factory slot map. -/
def SlotMap.factory : SlotMap :=
  { positions := (List.range 24).map some, zones := (List.range 16).map fun z => some (32 + z),
    announce := none, sense := none }

/-- The local port after power-up (R40). -/
def Port.reset : Port :=
  { depth := 32, presence := .absent, silent := 48, store := [], lastRead := 0, reading := false,
    resume := false, slipPending := false, wordSeen := false, turns := [] }

/-- The delay computer after power-up and RESET PLANS (R80). -/
def DelayComputer.reset : DelayComputer :=
  { distances := List.replicate 384 none, requested := 150, used := 150,
    delays := List.replicate 384 0, dirty := [], pointer := 0 }

/-- R81: the factory allocation. -/
def factoryAllocation : List Nat := [256, 256, 256, 256, 256, 256, 512]

/-- A zone after power-up (R127, R139). -/
def Zone.reset : Zone :=
  { home := .off, current := .off, phase := .steady, next := none, settleKind := .leavingOff,
    settleCount := 0, length := 1536, progress := 0, short := false, entered := none, announceTap := 0,
    dipWeight := 4096, duckTarget := 0, duck := 0, tap := none, bypass := false, generator := 1,
    insert := false, wanted := .off, wantedRow := 4, lastFade := 0, lastDip := 4096, lastWeight := 0,
    lastValid := false }

/-- The proving unit after power-up (R139). -/
def Proving.reset : Proving :=
  { level := -120, assignment := none, state := .idle, errors := 0, shadow := [], confirmed := 0,
    flywheel := [], progress := 0, mismatches := 0 }

/-- An override after power-up with its line inactive (R162). -/
def Override.reset (p : Programme) : Override :=
  { programme := p, sample := false, previous := false, latch := false, suppressed := false,
    state := .idle, copy := none, countdown := .none, durationInForce := 0, tailInForce := 0 }

/-- The five overrides after power-up with every line inactive (R140, R162). -/
def resetOverrides : PerLine Override :=
  { evac := Override.reset Programme.factoryEvac, o1 := Override.reset Programme.factoryO,
    o2 := Override.reset Programme.factoryO, o3 := Override.reset Programme.factoryO,
    o4 := Override.reset Programme.factoryO }

/-- The port pair after power-up at an address (R176). -/
def Link.reset (address : BitVec 6) : Link :=
  { address := address, counter := 0, stamp := 0, inBlock := 0, chain := .lost, badCount := 24,
    history := List.replicate 64 false, reception := none, forward := [], sending := .idle,
    laneUse := .nothing, laneLeft := 0, groups := 0, chainOut := none }

/-- The factory settings as an image would hold them; what a memory that holds no image is given
where the model needs a value (it is never read: the memory does not begin with the format mark). -/
def ImageData.factory : ImageData :=
  { plans := List.replicate 6 Plan.factory, distances := List.replicate 384 none, temperature := 150,
    allocation := factoryAllocation, positionSlots := SlotMap.factory.positions,
    zoneSlots := SlotMap.factory.zones, announceSlot := none,
    programmes := ⟨Programme.factoryEvac, Programme.factoryO, Programme.factoryO, Programme.factoryO,
      Programme.factoryO⟩,
    enable := false, groups := 0, homes := List.replicate 16 .off, unitKey := 0 }

/-- R196: the format mark, the first two bytes of a stored image. -/
def formatMark : Byte × Byte := (165, 28)

/-- R196: an erased memory, which reads 255 in every byte. -/
def ImageMemory.erased : ImageMemory :=
  { mark := (255, 255), sumGood := false, data := ImageData.factory }

/-- The machine right after a power-up reset with every address pin low, FALLBACK open, no contact
active and an erased image memory: steps 1 to 3 of R191 taken and the image load of step 4 waiting
for the first block boundary. -/
def State.reset : State :=
  { pending := [], powered := true, fallbackStrap := false, contacts := ⟨false, false, false, false, false⟩,
    areas := List.replicate 6 Area.reset, channels := List.replicate 25 Channel.reset,
    slotMap := SlotMap.factory, port := Port.reset, delay := DelayComputer.reset,
    lines := factoryAllocation.map fun n => ⟨n, 0, false⟩, cells := [],
    zones := List.replicate 16 Zone.reset, proving := Proving.reset, overrides := resetOverrides,
    overrideEnable := false, holder := none, standby := false, standbyTaken := false,
    link := Link.reset 0, status := { Status.clear with chain := true }, unitKey := 0, queue := [],
    sequence := 0, kindMask := 0, suppress := 0, reporting := 0, outcome := .pending, audioReset := none,
    allocClear := none, flush := none, save := none, load := some ⟨⟨200, false⟩, false, true⟩,
    fallbackDue := false, image := ImageMemory.erased, posts := [], early := [], choices := 0 }

end Sys2Proof.Machine
end

