-- ==== Sys2Proof/Machine/Operands.lean ====
section
/-! DEFINITION. The operand forms of packets: how the bytes of a body give numbers, absent values and
enumerated values, and how values become the bytes of a body (R192, R193, R194, R196). -/

namespace Sys2Proof.Machine

/-! ## Reading a body -/

/-- Byte i of a body; 0 past its end, which no body of the right length reaches. -/
def byteAt (body : List Byte) (i : Nat) : Nat := (body.getD i 0).toNat

/-- R193: the unsigned value of two bytes, most significant first. -/
def wordAt (body : List Byte) (i : Nat) : Nat := byteAt body i * 256 + byteAt body (i + 1)

/-- R193: a two's complement value of n bits. -/
def signedOf (bits n : Nat) : Int := if n < 2 ^ (bits - 1) then (n : Int) else (n : Int) - 2 ^ bits

/-- R193: the signed value of two bytes. -/
def intAt (body : List Byte) (i : Nat) : Int := signedOf 16 (wordAt body i)

/-- R193: in a byte that names something, 255 means absent or none. -/
def optOf (n : Nat) : Option Nat := if n = 255 then none else some n

/-- A name lies in its range, absent admitted. -/
def optBelow (o : Option Nat) (n : Nat) : Bool := o.all fun v => v < n

/-- Cuts a body into groups of n bytes; a last short group is kept. -/
def chunks (n : Nat) : Nat → List Byte → List (List Byte)
  | 0, _ => []
  | _ + 1, [] => []
  | fuel + 1, body => body.take n :: chunks n fuel (body.drop n)

/-- The groups of n bytes of a body. -/
def itemsOf (n : Nat) (body : List Byte) : List (List Byte) := chunks n body.length body

/-- R179: the place, counting from 1, of the first offending item, if one offends. -/
def firstBad (ok : List Byte → Bool) (items : List (List Byte)) : Option Nat :=
  match items.findIdx? fun i => !ok i with
  | none => none
  | some k => some (k + 1)

/-! ## Codes of enumerated values (R193) -/

/-- R33. -/
def Presence.code : Presence → Nat
  | .present => 0
  | .absent => 1

/-- R7. -/
def Service.code : Service → Nat
  | .dormant => 0
  | .inService => 1

/-- R14. -/
def StagedState.code : StagedState → Nat
  | .clean => 0
  | .edited => 1
  | .held => 2

/-- R195. -/
def MemberKind.code : MemberKind → Nat
  | .speech => 0
  | .ensemble => 1

/-- R42. -/
def Gate.code : Gate → Nat
  | .closed => 0
  | .opened => 1
  | .hold => 2

/-- R55. -/
def LeadSource.code : LeadSource → Nat
  | .speech => 0
  | .ensemble => 1
  | .rest => 2

/-- R86. -/
def Phase.code : Phase → Nat
  | .idle => 0
  | .settled => 1
  | .crossfade => 2
  | .dip => 3
  | .resting => 4
  | .faulted => 5
  | .resetting => 6

/-- R86: the kind of a transition. -/
def TransitionKind.code : TransitionKind → Nat
  | .crossfade _ => 0
  | .dip _ => 1

/-- R86: the reason of a transition; a dip has none. -/
def TransitionKind.reasonCode : TransitionKind → Nat
  | .crossfade .lead => 0
  | .crossfade .retune => 1
  | .dip _ => 255

/-- R108. -/
def Mode.code : Mode → Nat
  | .off => 0
  | .quiet => 1
  | .live => 2
  | .test => 3
  | .announce => 4

/-- R112: the home mode a code gives. -/
def homeModeOf : Nat → Option Mode
  | 0 => some .off
  | 1 => some .quiet
  | 2 => some .live
  | 3 => some .test
  | _ => none

/-- R108. -/
def FadePhase.code : FadePhase → Nat
  | .steady => 0
  | .fadeOut => 1
  | .settle => 2
  | .fadeIn => 3

/-- R108. -/
def SettleKind.code : SettleKind → Nat
  | .leavingOff => 0
  | .enteringOff => 1

/-- R131. -/
def DetectorState.code : DetectorState → Nat
  | .idle => 0
  | .searching => 1
  | .locked => 2

/-- R193: EVAC is 0 and O1 to O4 are 1 to 4. -/
def OvLine.code : OvLine → Nat
  | .evac => 0
  | .o1 => 1
  | .o2 => 2
  | .o3 => 3
  | .o4 => 4

/-- The override line a code gives. -/
def ovLineOf : Nat → Option OvLine
  | 0 => some .evac
  | 1 => some .o1
  | 2 => some .o2
  | 3 => some .o3
  | 4 => some .o4
  | _ => none

/-- R154, R155: the O line a code gives; EVAC is not one. -/
def oLineOf (n : Nat) : Option OvLine := if n = 0 then none else ovLineOf n

/-- A line's code, or 255 for none. -/
def ovOptCode (o : Option OvLine) : Nat := (o.map OvLine.code).getD 255

/-- R140. -/
def Trigger.code : Trigger → Nat
  | .edge => 0
  | .level => 1

/-- The trigger a code gives. -/
def triggerOf : Nat → Option Trigger
  | 0 => some .edge
  | 1 => some .level
  | _ => none

/-- R140. -/
def Source.code : Source → Nat
  | .localPort => 0
  | .slot => 1

/-- The source a code gives. -/
def sourceOf : Nat → Option Source
  | 0 => some .localPort
  | 1 => some .slot
  | _ => none

/-- R140. -/
def CountStart.code : CountStart → Nat
  | .atStart => 0
  | .atSourceEnd => 1

/-- The count start a code gives. -/
def countStartOf : Nat → Option CountStart
  | 0 => some .atStart
  | 1 => some .atSourceEnd
  | _ => none

/-- R146. -/
def OverrideState.code : OverrideState → Nat
  | .idle => 0
  | .requesting => 1
  | .active => 2
  | .ending => 3

/-- R164. -/
def ChainState.code : ChainState → Nat
  | .tracking => 0
  | .lost => 1

/-- R168. -/
def Decision.code : Decision → Nat
  | .pending => 0
  | .forward => 1
  | .strip => 2

/-- R175. -/
def LaneUse.code : LaneUse → Nat
  | .nothing => 0
  | .forwarded => 1
  | .own => 2

/-- R179: the result codes run from DONE = 0 to UNKNOWN_KIND = 12. -/
def ResultCode.code : ResultCode → Nat
  | .done => 0
  | .clamped => 1
  | .held => 2
  | .started => 3
  | .busy => 4
  | .refusedKey => 5
  | .refusedRange => 6
  | .refusedConflict => 7
  | .refusedState => 8
  | .refusedPending => 9
  | .notActive => 10
  | .malformed => 11
  | .unknownKind => 12

/-- R196: outcomes and reasons. -/
def OutcomeCode.code : OutcomeCode → Nat
  | .image => 0
  | .fallback => 1
  | .blank => 2
  | .sum => 3
  | .range => 4
  | .memberConflict => 5
  | .zoneConflict => 6
  | .joinChain => 7
  | .allocation => 8
  | .slotConflict => 9
  | .pending => 255

/-- R194: the place of a notice kind in the list that starts at 128. -/
def NoticeKind.index : NoticeKind → Nat
  | .keyFault => 0
  | .tapClamped => 1
  | .presence => 2
  | .clip => 3
  | .slip => 4
  | .chainLost => 5
  | .chainRegained => 6
  | .provingLocked => 7
  | .provingLost => 8
  | .takeFailed => 9
  | .leadChanged => 10
  | .takeApplied => 11
  | .retuneStarted => 12
  | .overrideStarted => 13
  | .overrideEnded => 14
  | .overrideDiscarded => 15
  | .lineFault => 16
  | .evacState => 17
  | .allocationDone => 18
  | .flushDone => 19
  | .imageSaved => 20
  | .imageLoaded => 21
  | .resetDone => 22
  | .powerUp => 23
  | .imageFailed => 24

/-- R181: the category of a notice kind. -/
def NoticeKind.category : NoticeKind → Category
  | .keyFault => .protection
  | .tapClamped => .geometry
  | .presence | .clip | .slip | .chainLost | .chainRegained | .provingLocked | .provingLost => .signal
  | .takeFailed | .imageFailed => .requests
  | .leadChanged | .takeApplied | .retuneStarted | .overrideStarted | .overrideEnded
  | .overrideDiscarded | .allocationDone | .flushDone | .imageSaved | .imageLoaded | .resetDone
  | .powerUp => .service
  | .lineFault | .evacState => .fatal

/-- R181: the place of a category in the table of R181. -/
def Category.index : Category → Nat
  | .protection => 0
  | .geometry => 1
  | .signal => 2
  | .requests => 3
  | .service => 4
  | .fatal => 5

/-! ## Writing a body -/

/-- A value of one byte. -/
def f1 (n : Nat) : Field := ⟨1, n⟩

/-- A value of two bytes. -/
def f2 (n : Int) : Field := ⟨2, n⟩

/-- A name of one byte, 255 for absent (R193). -/
def fo (o : Option Nat) : Field := ⟨1, (o.getD 255 : Nat)⟩

/-- A mark carried as a byte. -/
def fb (b : Bool) : Field := ⟨1, if b then 1 else 0⟩

/-- The low n bytes of a number, most significant first. -/
def beBytes : Nat → Nat → List Byte
  | 0, _ => []
  | n + 1, v => BitVec.ofNat 8 (v / 256 ^ n) :: beBytes n v

/-- R193: a field as bytes, most significant first, two's complement. -/
def Field.encode (f : Field) : List Byte := beBytes f.bytes (f.value % (256 ^ f.bytes : Nat)).toNat

/-- The bytes of a body. -/
def encodeBody (fs : List Field) : List Byte := fs.flatMap Field.encode

/-- A list of marks as bits, bit 0 for index 0. -/
def bitsOf (l : List Bool) : Nat :=
  l.foldr (fun b n => 2 * n + (if b then 1 else 0)) 0

end Sys2Proof.Machine
end

