-- ==== Sys2Proof/Config.lean ====
section
/-! DEFINITION. What one implementation of the FJ7420 fixes and the free values: the choices the spec
leaves open, as constants with no body, so that no proof can lean on one of them. -/

namespace Sys2Proof.Config

/-- R184: notices that fall at the same moment from different blocks enter in either order. At the
n-th such choice of a run this says which of the blocks still waiting goes next. -/
opaque noticeTurn (n : Nat) : Nat

/-- R89: a walk step and a tap formation that fall at one block boundary may be taken in either order.
True: the walk step is taken first. Applied to the run's choice counter. -/
opaque walkFirst (n : Nat) : Bool

/-- R159: at the first boundary after STANDBY the zones may take the standby before or after an
override's start ends it. True: they take the exit first. Applied to the run's choice counter. -/
opaque exitFirst (n : Nat) : Bool

/-- R152: a change of presence may be taken before or after the controller's own update of its boundary.
True: before. Applied to the run's choice counter. -/
opaque presenceFirst (n : Nat) : Bool

/-- R150: the controller may take a zone's switch out of ANNOUNCE before or after its arbitration step.
True: before, so that a release falls at the boundary of the switch. Applied to the run's choice
counter. -/
opaque releaseAtSwitch (n : Nat) : Bool

/-- R186: where one frame brings both a request and a notice, either is taken first. True: the notice.
Applied to the run's choice counter. -/
opaque noticeFirst (n : Nat) : Bool

/-- R194 gives a reply's body the values its owning rule names, and R192 a body at most 116 bytes.
For a READ MONITOR reply whose values need more, the spec does not say what is sent: the bytes behind its
fixed part are free. Applied to the run's choice counter. -/
opaque oversizeBody (n : Nat) : List Byte

/-- R68 and R138 carry out READ DISTANCES and READ PROVING in every state of the unit but an AUDIO reset and
an allocation clear, and R177 step 5 and R180 answer them BUSY while the power-up sequence reads the image too.
True: they are carried out then. Applied to the run's choice counter. -/
opaque readsDuringPowerUp (n : Nat) : Bool

/-- R164, R166: while TRACKING, a period in which no frame is found still gives a frame, and the spec does
not say what stands in a slot that no zone writes, but that its valid mark is 0. The sample that stands in
a slot. Applied to the run's choice counter and the slot. -/
opaque missingSample (n slot : Nat) : RawSample

/-- The status byte that goes with `missingSample`, before its valid mark is made 0. -/
opaque missingStatus (n slot : Nat) : Byte

end Sys2Proof.Config
end

