-- ==== Sys2Proof/Machine/Ops.lean ====
section
/-! DEFINITION. The named operations over the state that every block shares: reading and updating one
area, zone, channel or line; the delay memory (R81, R83); joins and steering areas (R6, R23); the area
path and its goal (R110); phases (R86). -/

namespace Sys2Proof.Machine

/-! ## One element of each table -/

/-- Area a. -/
def State.area (s : State) (a : Nat) : Area := s.areas.getD a Area.reset

/-- Changes area a. -/
def State.modArea (s : State) (a : Nat) (f : Area → Area) : State :=
  { s with areas := s.areas.modify a f }

/-- Zone z. -/
def State.zone (s : State) (z : Nat) : Zone := s.zones.getD z Zone.reset

/-- Changes zone z. -/
def State.modZone (s : State) (z : Nat) (f : Zone → Zone) : State :=
  { s with zones := s.zones.modify z f }

/-- Changes every zone, told its number. -/
def State.mapZones (s : State) (f : Nat → Zone → Zone) : State :=
  { s with zones := s.zones.mapIdx f }

/-- Channel c: a position, or 24 for the announce channel. -/
def State.channel (s : State) (c : Nat) : Channel := s.channels.getD c Channel.reset

/-- Changes channel c. -/
def State.modChannel (s : State) (c : Nat) (f : Channel → Channel) : State :=
  { s with channels := s.channels.modify c f }

/-- Line Lk. -/
def State.line (s : State) (k : Nat) : DelayLine := s.lines.getD k ⟨0, 0, false⟩

/-- Changes line Lk. -/
def State.modLine (s : State) (k : Nat) (f : DelayLine → DelayLine) : State :=
  { s with lines := s.lines.modify k f }

/-- The override record of a line. -/
def State.ov (s : State) (l : OvLine) : Override := s.overrides.get l

/-- Changes the override record of a line. -/
def State.modOv (s : State) (l : OvLine) (f : Override → Override) : State :=
  { s with overrides := s.overrides.set l (f (s.overrides.get l)) }

/-- The area numbers. -/
def areaIndexes : List Nat := List.range 6

/-- The zone numbers. -/
def zoneIndexes : List Nat := List.range 16

/-- The override lines in priority order (R147). -/
def ovLines : List OvLine := [.evac, .o1, .o2, .o3, .o4]

/-- O1 to O4. -/
def oLines : List OvLine := [.o1, .o2, .o3, .o4]

/-- Runs one update for each number of a list, in order. -/
def forEach (l : List Nat) (f : Nat → State → State) (s : State) : State :=
  l.foldl (fun t n => f n t) s

/-! ## The delay memory -/

/-- What a word that nothing has written since the line was zeroed holds (R85, R107). -/
def MemWord.zero : MemWord := ⟨0, false⟩

/-- The words in the memory (5.1). -/
def memoryWords : Nat := 98304

/-- The word at an address. -/
def readCell : List (Nat × MemWord) → Nat → MemWord
  | [], _ => MemWord.zero
  | (a, w) :: rest, n => if a = n then w else if n < a then MemWord.zero else readCell rest n

/-- Stores a word, keeping the addresses rising and listing no word equal to the unlisted one. -/
def writeCell : List (Nat × MemWord) → Nat → MemWord → List (Nat × MemWord)
  | [], n, w => if w = MemWord.zero then [] else [(n, w)]
  | (a, v) :: rest, n, w =>
    if n < a then (if w = MemWord.zero then (a, v) :: rest else (n, w) :: (a, v) :: rest)
    else if n = a then (if w = MemWord.zero then rest else (n, w) :: rest)
    else (a, v) :: writeCell rest n w

/-- Zeroes the n words from an address on, with parity. -/
def zeroCells (cells : List (Nat × MemWord)) (start n : Nat) : List (Nat × MemWord) :=
  cells.filter fun c => c.1 < start || start + n ≤ c.1

/-- Whether addresses rise strictly above a bound and no listed word equals the unlisted one. -/
def cellsFrom : Option Nat → List (Nat × MemWord) → Bool
  | _, [] => true
  | lo, (a, w) :: rest =>
    (match lo with
      | none => true
      | some b => decide (b < a)) && decide (w ≠ MemWord.zero) && cellsFrom (some a) rest

/-- The canonical form of the delay memory. -/
def Memory.wf (cells : List (Nat × MemWord)) : Bool := cellsFrom none cells

/-- R81: the first block of a line, the lines being packed in index order. -/
def State.firstBlock (s : State) (k : Nat) : Nat := ((s.lines.take k).map DelayLine.length).sum

/-- The words of a line. -/
def State.lineWords (s : State) (k : Nat) : Nat := (s.line k).length * 48

/-- The address of the word written t frames before the one written last. -/
def State.tapAddress (s : State) (k t : Nat) : Nat :=
  s.firstBlock k * 48 + ((s.line k).writeAt + s.lineWords k - 1 - t) % s.lineWords k

/-- R81: the word a read of line Lk at tap t finds. -/
def State.lineWord (s : State) (k t : Nat) : MemWord := readCell s.cells (s.tapAddress k t)

/-- R82: one sample is written into line Lk, with parity. A line of no blocks holds nothing. -/
def State.writeLine (s : State) (k : Nat) (x : Int) : State :=
  if (s.line k).length = 0 then s
  else
    let at_ := s.firstBlock k * 48 + (s.line k).writeAt
    State.modLine { s with cells := writeCell s.cells at_ ⟨x, false⟩ } k
      fun l => { l with writeAt := (l.writeAt + 1) % (l.length * 48) }

/-- Zeroes one line in every sample, with parity (R104). -/
def State.zeroLine (s : State) (k : Nat) : State :=
  State.modLine { s with cells := zeroCells s.cells (s.firstBlock k * 48) (s.lineWords k) } k
    fun l => { l with writeAt := 0 }

/-- Zeroes every line (R85, R106, R107, R190). -/
def State.zeroAllLines (s : State) : State :=
  { s with cells := [], lines := s.lines.map fun l => { l with writeAt := 0 } }

/-- Gives the lines new lengths and zeroes them; faults stay (R85, R107, R190). -/
def State.setLengths (s : State) (lengths : List Nat) : State :=
  State.zeroAllLines { s with lines := s.lines.mapIdx fun k l => { l with length := lengths.getD k 0 } }

/-! ## Long operations (10.2) -/

/-- An engine-wide busy period (R180): an AUDIO reset or an allocation clear that its boundary has begun, or
the power-up sequence reading the image. -/
def State.engineBusy (s : State) : Bool :=
  (s.audioReset.any Timer.started) || (s.allocClear.any Timer.started) ||
    (s.load.any fun l => l.powerUp && l.timer.started)

/-- R68, R138: neither an AUDIO reset nor an allocation clear is what keeps the request engine busy. -/
def State.loadAloneBusy (s : State) : Bool :=
  s.engineBusy && !s.audioReset.any Timer.started && !s.allocClear.any Timer.started

/-- An image save or load is in flight. -/
def State.imageBusy (s : State) : Bool := s.save.isSome || s.load.isSome

/-- Line Lk is under flush. -/
def State.flushing (s : State) (k : Nat) : Bool := s.flush.any fun f => f.1 == k

/-- R82, R83: line Lk is neither written nor read. -/
def State.lineStopped (s : State) (k : Nat) : Bool :=
  s.allocClear.isSome || s.audioReset.isSome || s.flushing k

/-- The line is faulted or under flush (R110, R111). -/
def State.lineDown (s : State) (k : Nat) : Bool := (s.line k).faulted || s.flushing k

/-! ## Joins, steering areas and the area path -/

/-- The area is IN_SERVICE. -/
def State.inService (s : State) (a : Nat) : Bool := (s.area a).service == .inService

/-- R23: area a is joined to b. -/
def State.joinedTo (s : State) (a b : Nat) : Bool := (s.area a).live.join == some b

/-- R6: the steering area of the zones in area a's live plan. -/
def State.steeredBy (s : State) (a : Nat) : Nat := ((s.area a).live.join).getD a

/-- Whether a plan lists a zone. -/
def Plan.hasZone (p : Plan) (z : Nat) : Bool := p.zones.any fun e => e.zone == z

/-- Whether a plan lists a position. -/
def Plan.hasMember (p : Plan) (q : Nat) : Bool := p.members.any fun m => m.position == q

/-- The area whose live plan lists the zone, if one does (R20 admits one at most). -/
def State.zoneArea (s : State) (z : Nat) : Option Nat :=
  areaIndexes.find? fun a => (s.area a).live.hasZone z

/-- R6: the zone's steering area. -/
def State.steeringArea (s : State) (z : Nat) : Option Nat := (s.zoneArea z).map s.steeredBy

/-- The mixer of area b runs (3.1, R7). An index that names no area runs none. -/
def State.running (s : State) (b : Nat) : Bool :=
  decide (b < 6) && s.inService b && (s.area b).live.join.isNone

/-- R110: the zone's area path is available. -/
def State.pathAvailable (s : State) (z : Nat) : Bool :=
  match s.zoneArea z with
  | none => false
  | some a => s.inService a && s.inService (s.steeredBy a) && !s.lineDown (s.steeredBy a)

/-- R110: the zone's goal is sounding. -/
def State.sounding (s : State) (z : Nat) : Bool :=
  match s.zoneArea z with
  | none => false
  | some a => s.pathAvailable z && (s.area a).restCount == 0 && (s.area (s.steeredBy a)).restCount == 0

/-- R86: the phase of area a's steering record; where several rows hold, the first in R86's order. -/
def State.phase (s : State) (a : Nat) : Phase :=
  let r := s.area a
  let joined := r.live.join.isSome
  if s.audioReset.isSome && s.inService a && !joined then .resetting
  else if s.lineDown a then .faulted
  else if !s.inService a || (joined && r.transition.isNone) then .idle
  else if 0 < r.restCount then .resting
  else
    match r.transition with
    | some t =>
      match t.kind with
      | .crossfade _ => .crossfade
      | .dip _ => .dip
    | none => .settled

/-- The zones of a plan, in zone order. -/
def Plan.zoneList (p : Plan) : List Nat := p.zones.map ZoneEntry.zone

/-- The areas joined to b, rising. -/
def State.joinedAreas (s : State) (b : Nat) : List Nat :=
  areaIndexes.filter fun a => a != b && s.joinedTo a b

/-- The zones of b's live plan and of the live plans of the areas joined to b (R87). -/
def State.steeredZones (s : State) (b : Nat) : List Nat :=
  (s.area b).live.zoneList ++ (s.joinedAreas b).flatMap fun a => (s.area a).live.zoneList

/-- The zone is an affected zone of a transition in flight on the record of area a. -/
def State.affectedOn (s : State) (a z : Nat) : Option (Transition × Affected) :=
  match (s.area a).transition with
  | none => none
  | some t => (t.zones.find? fun f => f.zone == z).map fun f => (t, f)

/-- R87: the record on which the zone is in a transition, if it is in one. -/
def State.inTransition (s : State) (z : Nat) : Option Nat :=
  areaIndexes.find? fun a => (s.affectedOn a z).isSome

/-- The running programme of the override that holds the bus. -/
def State.holderCopy (s : State) : Option Programme := s.holder.bind fun l => (s.ov l).copy

/-- The override that holds the bus, while it is ACTIVE. -/
def State.activeHolder (s : State) : Option OvLine :=
  s.holder.filter fun l => (s.ov l).state == .active

/-- The zone is in the target set of the ACTIVE holder. -/
def State.targeted (s : State) (z : Nat) : Bool :=
  match s.activeHolder with
  | none => false
  | some l => ((s.ov l).copy.any fun p => p.targets.getLsbD z)

/-- R83: any override is requesting, ACTIVE or ENDING (R84, R159, R189). -/
def State.overrideInUse (s : State) : Bool := ovLines.any fun l => (s.ov l).state != .idle

/-- Some area is IN_SERVICE. -/
def State.anyInService (s : State) : Bool := areaIndexes.any s.inService

end Sys2Proof.Machine
end

