-- ==== Sys2Proof/Machine/Flags.lean ====
section
/-! DEFINITION. The status record's flags and counters (R181, R182), the posting of notices with the
flag that goes with each (R184), the outgoing queue (R179, R186) and the standing conditions (R187). -/

namespace Sys2Proof.Machine

/-! ## Flags -/

/-- R184 step 1: the flag of R181 that goes with a kind, set for its subject. LINE_FAULT stands with
the lines and is set by the fault itself (R100); EVAC has no notice of its own (R145). -/
def Status.setFor (r : Status) (kind : NoticeKind) (subject : Nat) (direction : Nat) : Status :=
  match kind with
  | .keyFault => { r with keyFault := true }
  | .tapClamped => { r with tapClamped := setBit r.tapClamped subject }
  | .presence => { r with presence := setBit r.presence subject }
  | .clip => { r with clip := setBit r.clip subject }
  | .slip => if direction = 0 then { r with slipOver := true } else { r with slipUnder := true }
  | .chainLost | .chainRegained => { r with chain := true }
  | .provingLocked | .provingLost => { r with proving := true }
  | .takeFailed => { r with takeFailed := setBit r.takeFailed subject }
  | .leadChanged => { r with lead := setBit r.lead subject }
  | .takeApplied => { r with takeApplied := setBit r.takeApplied subject }
  | .retuneStarted => { r with retune := setBit r.retune subject }
  | .overrideStarted | .overrideEnded | .overrideDiscarded =>
    if subject = 0 then r else { r with override := setBit r.override subject }
  | .lineFault | .evacState | .allocationDone | .flushDone | .imageSaved | .imageLoaded | .resetDone
  | .powerUp | .imageFailed => r

/-- R185: the flag that goes with a kind, cleared for every subject. -/
def Status.clearFor (r : Status) (kind : NoticeKind) : Status :=
  match kind with
  | .keyFault => { r with keyFault := false }
  | .tapClamped => { r with tapClamped := 0 }
  | .presence => { r with presence := 0 }
  | .clip => { r with clip := 0 }
  | .slip => { r with slipOver := false, slipUnder := false }
  | .chainLost | .chainRegained => { r with chain := false }
  | .provingLocked | .provingLost => { r with proving := false }
  | .takeFailed => { r with takeFailed := 0 }
  | .leadChanged => { r with lead := 0 }
  | .takeApplied => { r with takeApplied := 0 }
  | .retuneStarted => { r with retune := 0 }
  | .overrideStarted | .overrideEnded | .overrideDiscarded => { r with override := 0 }
  | .lineFault | .evacState | .allocationDone | .flushDone | .imageSaved | .imageLoaded | .resetDone
  | .powerUp | .imageFailed => r

/-- The notice kinds that can be masked (R185). -/
def maskableKinds : List NoticeKind :=
  [.keyFault, .tapClamped, .presence, .clip, .slip, .chainLost, .chainRegained, .provingLocked,
    .provingLost, .takeFailed, .leadChanged, .takeApplied, .retuneStarted, .overrideStarted,
    .overrideEnded, .overrideDiscarded, .allocationDone, .flushDone, .imageSaved, .imageLoaded,
    .resetDone, .powerUp, .imageFailed]

/-- R185: clears the flags of every kind whose mark a mask sets. -/
def Status.clearMasked (r : Status) (mask : BitVec 25) : Status :=
  maskableKinds.foldl (fun t k => if mask.getLsbD k.index then t.clearFor k else t) r

/-- R182: CLEAR STATUS clears every flag of R181 except LINE_FAULT and EVAC, and every counter. -/
def Status.cleared (r : Status) : Status := { Status.clear with evac := r.evac }

/-- The flags that notices set, taken from another record; counters and the rest stay. -/
def Status.withFlagsOf (r q : Status) : Status :=
  { r with
    keyFault := q.keyFault, tapClamped := q.tapClamped, presence := q.presence, clip := q.clip,
    slipOver := q.slipOver, slipUnder := q.slipUnder, chain := q.chain, proving := q.proving,
    takeFailed := q.takeFailed, lead := q.lead, takeApplied := q.takeApplied, retune := q.retune,
    override := q.override }

/-- R187: the PRESENCE flags of standing conditions: ABSENT slot monitors whose channel has a slot,
and the local port while ABSENT. -/
def State.standingPresence (s : State) : List Nat :=
  (List.range 26).filter fun c =>
    if c = 25 then s.port.presence == .absent
    else (s.channel c).presence == .absent &&
      (if c = 24 then s.slotMap.announce else s.slotMap.positions.getD c none).isSome

/-- R187: the flags of standing conditions set again, with no notice. -/
def State.setStanding (s : State) : State :=
  let r := s.status
  { s with status := { r with
      chain := r.chain || s.link.chain == .lost
      evac := r.evac || (s.ov .evac).latch
      presence := s.standingPresence.foldl setBit r.presence } }

/-! ## Notices and the queue -/

/-- R184: posts a notice. Its flag is set at once; whether it is sent is decided by `flushPosts`. -/
def State.postAt (s : State) (block : Block) (kind : NoticeKind) (subject : Nat) (value : List Field)
    (stamp : Nat) : State :=
  { s with
    status := s.status.setFor kind subject ((value.head?.map Field.value).getD 0).toNat
    posts := s.posts ++ [⟨block, kind, subject, value, stamp⟩] }

/-- R184: posts a notice with the frame counter as it stands. -/
def State.post (s : State) (block : Block) (kind : NoticeKind) (subject : Nat) (value : List Field) :
    State :=
  s.postAt block kind subject value s.link.counter

/-- R186: how many entries the outgoing queue holds at most. -/
def queueCapacity : Nat := 8

/-- R184 steps 2 to 4 for one notice. -/
def State.sendPost (s : State) (p : Post) : State :=
  if s.kindMask.getLsbD p.kind.index || s.suppress.getLsbD p.kind.category.index then s
  else
    let seq := s.sequence + 1
    if s.queue.length < queueCapacity then
      { s with
        sequence := seq
        queue := s.queue ++ [
          { dest := s.reporting.setWidth 8
            tag := seq
            kind := BitVec.ofNat 8 (128 + p.kind.index)
            body := f1 p.subject :: p.value ++ [⟨4, p.stamp⟩] }] }
    else
      { s with
        sequence := seq
        status := { s.status with
          noticesDropped := sat16 (s.status.noticesDropped + 1)
          outQueueFull := true } }

/-- The blocks that still have notices waiting, each once, in the order of their first notice. -/
def blocksWaiting : List Post → List Block
  | [] => []
  | p :: ps => if (blocksWaiting ps).contains p.block then p.block :: (blocksWaiting ps).erase p.block
      else p.block :: blocksWaiting ps

/-- R184: notices of one block keep their order; those of different blocks enter in either order,
which the free value decides. A moment with one block's notices takes no choice. -/
def mergePosts : Nat → Nat → List Post → List Post
  | 0, _, ps => ps
  | _ + 1, _, [] => []
  | fuel + 1, n, p :: ps =>
    let blocks := blocksWaiting (p :: ps)
    if blocks.length ≤ 1 then p :: ps
    else
      let b := blocks.getD (Config.noticeTurn n % blocks.length) p.block
      match (p :: ps).find? fun q => q.block == b with
      | none => p :: ps
      | some q => q :: mergePosts fuel (n + 1) ((p :: ps).erase q)

/-- R184: sends the notices posted in the present command. -/
def State.flushPosts (s : State) : State :=
  let ps := mergePosts s.posts.length s.choices s.posts
  let t := { s with
    posts := []
    choices := if (blocksWaiting s.posts).length ≤ 1 then s.choices else s.choices + s.posts.length }
  ps.foldl State.sendPost t

/-- R179: the reply of a sole request enters the outgoing queue; a broadcast or group request has
none (R177). -/
def State.reply (s : State) (kind : Nat) (p : Packet) (code : ResultCode) (body : List Field) : State :=
  match p.manner with
  | .sole =>
    { s with queue := s.queue ++ [
        { dest := p.source &&& 0x3F#8
          tag := p.tag
          kind := BitVec.ofNat 8 (kind + 64)
          body := f1 code.code :: body }] }
  | .broadcast | .group => s

end Sys2Proof.Machine
end

