-- ==== Sys2Proof/Machine/Mixer.lean ====
section
/-! DEFINITION. The gain-share mixer (chapter 3): considered sets and member records, the per-block
update step by step, lead election, duck targets, and the area bus. -/

namespace Sys2Proof.Machine

/-! ## Considered sets and records (R41, R42) -/

/-- R41: the considered set of area b, in position order, each position with the kind and trim of the
plan that lists it; empty when b's mixer does not run. -/
def State.considered (s : State) (b : Nat) : List Member :=
  if s.running b then
    let lists := (s.area b).live.members ++
      ((s.joinedAreas b).filter s.inService).flatMap fun a => (s.area a).live.members
    (List.range 24).filterMap fun p => lists.find? fun m => m.position == p
  else []

/-- R42: the record of a position that enters the set. -/
def MemberRec.fresh (m : Member) : MemberRec :=
  { position := m.position, kind := m.kind, trim := m.trim, s := -480, f := -300, rise := 0,
    gate := .closed, hold := 0, t := -480, g := -480, isNew := true }

/-- R42: a kept record under its plan's kind and trim; a changed kind closes it. -/
def MemberRec.keep (r : MemberRec) (m : Member) : MemberRec :=
  if r.kind = m.kind then { r with trim := m.trim }
  else { r with kind := m.kind, trim := m.trim, gate := .closed, hold := 0, rise := 0 }

/-- R42: the records that a considered set gives, from those before. -/
def syncRecords (set : List Member) (old : List MemberRec) : List MemberRec :=
  set.map fun m =>
    match old.find? fun r => r.position == m.position with
    | some r => r.keep m
    | none => MemberRec.fresh m

/-- R62: what a mixer that does not run reads. -/
def Area.stopMixer (r : Area) : Area :=
  { r with records := [], nom := 1, speechTop := -480, ensembleLevel := -480 }

/-- The area's zone is served by a running mixer: that of its steering area, its own area being
IN_SERVICE (R59). -/
def State.served (s : State) (z : Nat) : Option Nat :=
  match s.zoneArea z with
  | none => none
  | some a =>
    if s.running (s.steeredBy a) && s.inService a then some (s.steeredBy a) else none

/-- R41, R42, R61, R62: brings every mixer's records into step with the plans and service states as
they now stand; a zone no running mixer serves has a duck target of 0. -/
def State.syncMixers (s : State) : State :=
  let t := forEach areaIndexes (fun b u =>
    u.modArea b fun r =>
      if s.running b then { r with records := syncRecords (s.considered b) r.records }
      else r.stopMixer) s
  t.mapZones fun z r => if (s.served z).isSome then r else { r with duckTarget := 0 }

/-! ## The per-block update of a record (R44 to R48, R51) -/

/-- R45: the smoothed level. -/
def smooth (release level prev : Int) : Int :=
  if prev - release ≤ level then level else max (-480) (prev - release)

/-- R46: the rise of a noise floor, FLOOR_RISE. -/
def MemberRec.raiseFloor (r : MemberRec) : MemberRec := { r with f := min (-40) (r.f + 1), rise := 0 }

/-- R46: the noise floor step of a present SPEECH member whose S is already the new one; `gate` is the
gate as it stood before this boundary's gate step. -/
def MemberRec.floorStep (r : MemberRec) (gate : Gate) : MemberRec :=
  if r.s < r.f then { r with f := clampInt (-480) (-40) r.s, rise := 0 }
  else if gate = .closed then
    if 250 ≤ r.rise + 1 then r.raiseFloor else { r with rise := r.rise + 1 }
  else r

/-- R44: the record of an absent member. -/
def MemberRec.absent (r : MemberRec) : MemberRec :=
  { r with s := -480, gate := .closed, hold := 0, t := -480, g := -480, isNew := false }

/-- Steps 1 and 2 of R43 for one record: level and floor. A member whose floor rise or gate closing
was taken early at this boundary is not stepped for it again. -/
def MemberRec.levelStep (release : Int) (level : Int) (present early gateEarly : Bool) (r : MemberRec) :
    MemberRec :=
  if present then
    let r := { r with s := smooth release level r.s }
    if r.kind = .speech ∧ early = false then r.floorStep (if gateEarly then .hold else r.gate) else r
  else r.absent

/-- R47: the greatest S among the present SPEECH members, −480 when there is none. -/
def speechTopOf (present : Nat → Bool) (rs : List MemberRec) : Int :=
  rs.foldl (fun m r => if r.kind = .speech ∧ present r.position = true then max m r.s else m) (-480)

/-- R47: the open condition. -/
def MemberRec.opens (r : MemberRec) (openMargin window top : Int) : Bool :=
  decide (r.f + openMargin ≤ r.s) && decide (top - window ≤ r.s)

/-- R48: a gate whose hold count has run out closes, GATE_HOLD_EXPIRY. -/
def MemberRec.closeGate (r : MemberRec) : MemberRec := { r with gate := .closed, hold := 0 }

/-- R48: the gate step of a present SPEECH member. -/
def MemberRec.gateStep (r : MemberRec) (holds : Bool) (gateHold : Nat) : MemberRec :=
  match r.gate with
  | .closed => if holds then { r with gate := .opened } else r
  | .opened => if holds then r else { r with gate := .hold, hold := gateHold }
  | .hold =>
    if holds then { r with gate := .opened, hold := 0 }
    else if r.hold ≤ 1 then r.closeGate
    else { r with hold := r.hold - 1 }

/-- R49: the open-microphone count. -/
def nomOf (present : Nat → Bool) (rs : List MemberRec) : Nat :=
  let speech := (rs.filter fun r => r.kind == .speech && present r.position && r.gate != .closed).length
  let choir := if rs.any fun r => r.kind == .ensemble && present r.position then 1 else 0
  max 1 (speech + choir)

/-- R51: the target gain of a present member. -/
def MemberRec.target (r : MemberRec) (offAttenuation : Int) (nom : Nat) : Int :=
  clampInt (-480) 96
    (if r.kind = .speech ∧ r.gate = .closed then r.trim - offAttenuation - attenuation nom
     else r.trim - attenuation nom)

/-- R51: the applied gain moves toward the target. -/
def slew (g t : Int) : Int := if g < t then min t (g + 8) else if t < g then max t (g - 2) else g

/-- R51: target and applied gain of a present member. -/
def MemberRec.gainStep (r : MemberRec) (offAttenuation : Int) (nom : Nat) : MemberRec :=
  let t := r.target offAttenuation nom
  { r with t := t, g := if r.isNew then t else slew r.g t, isNew := false }

/-- R52: the group level E. -/
def ensembleLevelOf (present : Nat → Bool) (rs : List MemberRec) : Int :=
  rs.foldl (fun m r => if r.kind = .ensemble ∧ present r.position = true then max m r.s else m) (-480)

/-! ## Lead election (R55 to R57) -/

/-- R52: the ensemble group as a candidate. -/
def ensembleCandidate (plan : Plan) (present : Nat → Bool) (rs : List MemberRec) (e : Int) :
    Option (Lead × Int) :=
  match plan.ensemble with
  | none => none
  | some p =>
    if (rs.any fun r => r.kind == .ensemble && present r.position) && decide (plan.ensembleThreshold ≤ e)
    then some (⟨p, .ensemble⟩, e) else none

/-- R56: the candidates with their levels. -/
def candidates (plan : Plan) (present : Nat → Bool) (rs : List MemberRec) (e : Int) :
    List (Lead × Int) :=
  (rs.filterMap fun r =>
    if r.kind = .speech ∧ present r.position = true ∧ r.gate = .opened
    then some (⟨r.position, .speech⟩, r.s) else none) ++ (ensembleCandidate plan present rs e).toList

/-- R56: whether the first candidate stands above the second: by level, then by the lower position,
then SPEECH before ENSEMBLE. -/
def above (a b : Lead × Int) : Bool :=
  decide (b.2 < a.2) || (a.2 == b.2 && (decide (a.1.position < b.1.position) ||
    (a.1.position == b.1.position && a.1.source == .speech && b.1.source != .speech)))

/-- R56: the top of the candidates. -/
def topOf : List (Lead × Int) → Option (Lead × Int)
  | [] => none
  | c :: cs =>
    match topOf cs with
    | none => some c
    | some d => if above d c then some d else some c

/-- R55: the lead's level at an update. -/
def leadLevelOf (present : Nat → Bool) (rs : List MemberRec) (e : Int) (lead : Lead) : Int :=
  match lead.source with
  | .speech =>
    match rs.find? fun r => r.position == lead.position && r.kind == .speech && present r.position with
    | some r => r.s
    | none => -480
  | .ensemble => e
  | .rest => -480

/-- R57: the challenger as the top and the lead leave it, before it is seen whether it takes the
lead. -/
def nextChallenger (lead : Lead) (level margin : Int) (top : Option (Lead × Int))
    (old : Option Challenger) : Option Challenger :=
  match top with
  | none => none
  | some (c, l) =>
    if c = lead ∨ l < level + margin then none
    else
      match old with
      | some ch => if ch.lead = c then some ⟨c, ch.count + 1⟩ else some ⟨c, 1⟩
      | none => some ⟨c, 1⟩

/-- R57: the challenger has reached the lead hold. -/
def reachesHold (hold : Int) (c : Option Challenger) : Option Lead :=
  match c with
  | none => none
  | some ch => if hold ≤ (ch.count : Int) then some ch.lead else none

/-! ## One mixer's update (R43) -/

/-- What a mixer's update finds in steps 1 to 7 of R43. -/
structure MixResult where
  records : List MemberRec
  top : Int
  nom : Nat
  ensembleLevel : Int
  deriving DecidableEq, Repr

/-- Steps 1 to 7 of R43 over the records of one mixer, from the levels and presences of the boundary.
`early` holds the members' events that were taken early at this boundary. -/
def mixSteps (plan : Plan) (level : Nat → Int) (present : Nat → Bool) (early : List Early)
    (rs : List MemberRec) : MixResult :=
  let r1 := rs.map fun r => r.levelStep plan.releaseRate (level r.position) (present r.position)
    (early.contains (.floor r.position)) (early.contains (.gate r.position))
  let top := speechTopOf present r1
  let r2 := r1.map fun r =>
    if r.kind = .speech ∧ present r.position = true ∧ early.contains (.gate r.position) = false
    then r.gateStep (r.opens plan.openMargin plan.window top) plan.gateHold.toNat else r
  let nom := nomOf present r2
  let r3 := r2.map fun r => if present r.position then r.gainStep plan.offAttenuation nom else r
  { records := r3, top := top, nom := nom, ensembleLevel := ensembleLevelOf present r3 }

/-- R57: the lead of area a changes: the record takes the challenger, a steering request is posted,
and LEAD_CHANGED reports it. -/
def State.changeLead (s : State) (a : Nat) (lead : Lead) : State :=
  (s.modArea a fun r => { r with lead := lead, challenger := none, posted := true }).post
    .mixer .leadChanged a [f1 lead.position, f1 lead.source.code]

/-- R43 for area b, less the duck targets: steps 1 to 8. A lead change already taken early at this
boundary is not elected again. The lead level kept for READ MONITOR is that of the lead the update finds,
which the election compares (R57), also where the lead then changes (log entry 32). -/
def State.mixArea (s : State) (level : Nat → Int) (present : Nat → Bool) (b : Nat) : State :=
  let r := s.area b
  let m := mixSteps r.live level present s.early r.records
  let lv := leadLevelOf present m.records m.ensembleLevel r.lead
  let s := s.modArea b fun r =>
    { r with records := m.records, speechTop := m.top, nom := m.nom, ensembleLevel := m.ensembleLevel,
             leadLevel := if s.early.contains (.lead b) then r.leadLevel else lv }
  if s.early.contains (.lead b) then s
  else
    let top := topOf (candidates r.live present m.records m.ensembleLevel)
    let ch := nextChallenger r.lead lv r.live.leadMargin top r.challenger
    match reachesHold r.live.leadHold ch with
    | some lead => s.changeLead b lead
    | none => s.modArea b fun r => { r with challenger := ch }

/-- R59: the duck target of a zone that area b's mixer serves. -/
def State.duckTargetOf (s : State) (present : Nat → Bool) (b z : Nat) : Int :=
  let r := s.area b
  let near (p : Nat) : Bool :=
    match s.delay.distances.getD (16 * p + z) none with
    | none => false
    | some d => decide ((d : Int) < r.live.guard)
  if r.live.guard ≠ 0 ∧ (r.records.any fun m =>
      m.kind == .speech && present m.position && m.gate != .closed && near m.position) = true
  then r.live.duck else 0

/-- R60: the applied duck moves toward its target. -/
def duckStep (duck target : Int) : Int :=
  if duck < target then min target (duck + 2) else if target < duck then max target (duck - 2) else duck

/-- R43, R59: the updates of every running mixer at a boundary. -/
def State.mixBoundary (s : State) (level : Nat → Int) (present : Nat → Bool) : State :=
  let s := forEach areaIndexes (fun b t => if t.running b then t.mixArea level present b else t) s
  s.mapZones fun z r =>
    { r with duckTarget :=
        match s.served z with
        | some b => s.duckTargetOf present b z
        | none => 0 }

/-- R60 for every zone. -/
def State.duckBoundary (s : State) : State :=
  s.mapZones fun _ r => { r with duck := duckStep r.duck r.duckTarget }

/-! ## The lead outside the election (R58) -/

/-- R58: the lead's identity is allowed by the area's live plan. -/
def State.leadAllowed (s : State) (a : Nat) (lead : Lead) : Bool :=
  let speechIn (p : Plan) := p.members.any fun m => m.position == lead.position && m.kind == .speech
  match lead.source with
  | .speech => speechIn (s.area a).live || (s.joinedAreas a).any fun b => speechIn (s.area b).live
  | .ensemble => (s.area a).live.ensemble == some lead.position
  | .rest => (s.area a).live.rest == lead.position

/-- R58: the lead becomes the rest position of the live plan, with no challenger and no notice. -/
def Area.restLead (r : Area) : Area := { r with lead := ⟨r.live.rest, .rest⟩, challenger := none }

/-- R58: the lead check of a take applied to an IN_SERVICE area. -/
def State.checkLead (s : State) (a : Nat) : State :=
  if s.leadAllowed a (s.area a).lead then s.modArea a fun r => { r with challenger := none }
  else
    let rest := (s.area a).live.rest
    (s.modArea a Area.restLead).post .mixer .leadChanged a [f1 rest, f1 LeadSource.rest.code]

/-! ## The area bus (R53) -/

/-- R53: the exact sum of the members' products, before the area gain. -/
def busSum (sample : Nat → Int) (rs : List MemberRec) : Int :=
  (rs.map fun r => applyGain r.g (sample r.position)).sum

/-- R53, R54: area b's bus sample, and whether saturation changed it; none when no bus is formed. -/
def State.busSample (s : State) (sample : Nat → Int) (b : Nat) : Option (Int × Bool) :=
  if s.running b && s.audioReset.isNone then
    let y := applyGain (s.area b).live.areaGain (busSum sample (s.area b).records)
    some (saturate y, saturate y != y)
  else none

end Sys2Proof.Machine
end

