-- ==== Sys2Proof/Machine/Delay.lean ====
section
/-! DEFINITION. The delay computer (chapter 4): the dirty set and the walk, and the formation of steered
and announce taps with their limit and TAP_CLAMPED. -/

namespace Sys2Proof.Machine

/-- The pairs of the distance table (R66). -/
def pairCount : Nat := 384

/-- R66: the index of a pair. -/
def pairIndex (p z : Nat) : Nat := 16 * p + z

/-- R73: marks one entry dirty. -/
def DelayComputer.mark (d : DelayComputer) (i : Nat) : DelayComputer :=
  { d with dirty := insertIndex i d.dirty }

/-- R73: marks every entry dirty. -/
def DelayComputer.markAll (d : DelayComputer) : DelayComputer := { d with dirty := List.range pairCount }

/-- R74: the indexes a walk step takes: the first four dirty ones from the pointer on, past 383 to 0. -/
def DelayComputer.walkTakes (d : DelayComputer) : List Nat :=
  ((d.dirty.filter fun i => d.pointer ≤ i) ++ d.dirty.filter fun i => i < d.pointer).take 4

/-- R70: the speed of sound that T_used gives. -/
def DelayComputer.speed (d : DelayComputer) : Int := speedOfSound d.used

/-- R71, R74: recomputes one entry and takes it out of the dirty set. -/
def DelayComputer.recompute (d : DelayComputer) (i : Nat) : DelayComputer :=
  { d with
    delays := d.delays.set i (geometricDelay (d.distances.getD i none) d.speed)
    dirty := d.dirty.filter fun j => j != i }

/-- R74: one walk step. -/
def DelayComputer.walk (d : DelayComputer) : DelayComputer :=
  match d.walkTakes.getLast? with
  | none => d
  | some l =>
    { d.walkTakes.foldl DelayComputer.recompute d with pointer := (l + 1) % pairCount }

/-- R75: the walk step settles the delay table: it finds a set and leaves it empty. -/
def DelayComputer.settles (d : DelayComputer) : Bool := !d.dirty.isEmpty && d.walk.dirty.isEmpty

/-- R69: SET AIR TEMPERATURE's effect for a value already clamped. -/
def DelayComputer.setTemperature (d : DelayComputer) (t : Int) : DelayComputer :=
  let d := { d with requested := t }
  if 5 ≤ |t - d.used| then { d with used := t }.markAll else d

/-- R72: the stored delay of a pair. -/
def State.storedDelay (s : State) (p z : Nat) : Nat := s.delay.delays.getD (pairIndex p z) 0

/-! ## Taps (R76 to R79) -/

/-- R78: a tap limited against a line of n blocks. -/
def limitTap (n tap : Nat) : Nat := if n = 0 then 0 else min tap (n * 48 - 1)

/-- R78: the limit changes the tap, on a line that holds sound. -/
def tapOver (n tap : Nat) : Bool := n != 0 && decide (n * 48 - 1 < tap)

/-- R79: reports a tap formed for zone z against a line of n blocks: TAP_CLAMPED, with the notice only
when the flag was clear. -/
def State.reportTap (s : State) (block : Block) (z n tap : Nat) : State :=
  if tapOver n tap && !s.status.tapClamped.getLsbD z then s.post block .tapClamped z [f2 tap] else s

/-- R76: the steered tap of zone z from its steering area b, before the limit. -/
def State.rawTap (s : State) (b z : Nat) : Nat :=
  s.storedDelay (s.area b).lead.position z + (s.area b).live.precedence.toNat

/-- R76, R78: the steered tap of zone z from steering area b, as used. -/
def State.steeredTap (s : State) (b z : Nat) : Nat := limitTap (s.line b).length (s.rawTap b z)

/-- R79: reports the steered tap formed for zone z. -/
def State.reportSteered (s : State) (b z : Nat) : State :=
  s.reportTap .delay z (s.line b).length (s.rawTap b z)

/-- R76: forms the steered tap of each zone of a list from steering area b and makes it the zone's
current tap. -/
def State.formTaps (s : State) (b : Nat) (zs : List Nat) : State :=
  forEach zs (fun z t => (t.reportSteered b z).modZone z fun r => { r with tap := some (t.steeredTap b z) }) s

/-- R77: the announce tap of zone z under a programme, before the limit. -/
def State.rawAnnounceTap (s : State) (p : Programme) (z : Nat) : Nat :=
  match p.position with
  | some q => s.storedDelay q z + 480
  | none => 0

end Sys2Proof.Machine
end

