-- ==== Sys2Proof/Machine/Plans.lean ====
section
/-! DEFINITION. The plan store (chapter 1): plan items, validation at apply time, applying a take. -/

namespace Sys2Proof.Machine

/-! ## Plan items (R12, R13, R195) -/

/-- The numeric items 8 to 21 of R195 with their ranges of R12. -/
def numericRange : Nat → Option (Int × Int)
  | 8 => some (-480, 0)
  | 9 => some (8, 160)
  | 10 => some (16, 240)
  | 11 => some (10, 2000)
  | 12 => some (0, 240)
  | 13 => some (1, 32)
  | 14 => some (0, 80)
  | 15 => some (20, 2000)
  | 16 => some (16, 256)
  | 17 => some (0, 960)
  | 18 => some (1, 480)
  | 19 => some (0, 3000)
  | 20 => some (0, 120)
  | 21 => some (-480, 48)
  | _ => none

/-- Sets the numeric item of a code. -/
def Plan.setNumeric (p : Plan) (code : Nat) (v : Int) : Plan :=
  match code with
  | 8 => { p with ensembleThreshold := v }
  | 9 => { p with openMargin := v }
  | 10 => { p with window := v }
  | 11 => { p with gateHold := v }
  | 12 => { p with offAttenuation := v }
  | 13 => { p with releaseRate := v }
  | 14 => { p with leadMargin := v }
  | 15 => { p with leadHold := v }
  | 16 => { p with crossfade := v }
  | 17 => { p with precedence := v }
  | 18 => { p with retune := v }
  | 19 => { p with guard := v }
  | 20 => { p with duck := v }
  | 21 => { p with areaGain := v }
  | _ => p

/-- The numeric item of a code. -/
def Plan.numeric (p : Plan) : Nat → Int
  | 8 => p.ensembleThreshold
  | 9 => p.openMargin
  | 10 => p.window
  | 11 => p.gateHold
  | 12 => p.offAttenuation
  | 13 => p.releaseRate
  | 14 => p.leadMargin
  | 15 => p.leadHold
  | 16 => p.crossfade
  | 17 => p.precedence
  | 18 => p.retune
  | 19 => p.guard
  | 20 => p.duck
  | 21 => p.areaGain
  | _ => 0

/-- R15 step 3: no structural value of an item is out of range, the plan being that of area a. Value bytes that
R195 gives no meaning are not looked at (log entry 56). -/
def itemOk (a : Nat) (item : List Byte) : Bool :=
  let v1 := byteAt item 1
  let v2 := byteAt item 2
  let v3 := byteAt item 3
  match byteAt item 0 with
  | 1 => v1 < 24 && v2 < 2
  | 2 => v1 < 24
  | 3 | 4 => v1 < 16
  | 5 => true
  | 6 => v3 < 24
  | 7 => optBelow (optOf v3) 24
  | 22 => optBelow (optOf v3) 6 && v3 != a
  | 23 => v3 < 2
  | c => (numericRange c).isSome

/-- R13: puts an entry at its place in position order, replacing one for the same position. -/
def addMember (m : Member) : List Member → List Member
  | [] => [m]
  | x :: xs =>
    if m.position < x.position then m :: x :: xs
    else if m.position = x.position then m :: xs
    else x :: addMember m xs

/-- R13: puts an entry at its place in zone order, replacing one for the same zone. -/
def addZone (e : ZoneEntry) : List ZoneEntry → List ZoneEntry
  | [] => [e]
  | x :: xs =>
    if e.zone < x.zone then e :: x :: xs else if e.zone = x.zone then e :: xs else x :: addZone e xs

/-- R13, R15 step 4: one item, whose structural values are in range, acts on a plan; and whether a
numeric value was clamped. -/
def applyItem (p : Plan) (item : List Byte) : Plan × Bool :=
  let v1 := byteAt item 1
  let v3 := byteAt item 3
  match byteAt item 0 with
  | 1 =>
    let raw := signedOf 8 v3
    let trim := clampInt (-96) 96 raw
    ({ p with members := addMember ⟨v1, if byteAt item 2 = 0 then .speech else .ensemble, trim⟩ p.members },
      trim != raw)
  | 2 => ({ p with members := p.members.filter fun m => m.position != v1 }, false)
  | 3 =>
    let raw := intAt item 2
    let gain := clampInt (-480) 48 raw
    ({ p with zones := addZone ⟨v1, gain⟩ p.zones }, gain != raw)
  | 4 => ({ p with zones := p.zones.filter fun e => e.zone != v1 }, false)
  | 5 => ({ p with areaKey := BitVec.ofNat 16 (wordAt item 2) }, false)
  | 6 => ({ p with rest := v3 }, false)
  | 7 => ({ p with ensemble := optOf v3 }, false)
  | 22 => ({ p with join := optOf v3 }, false)
  | 23 => ({ p with startAwake := v3 == 1 }, false)
  | c =>
    match numericRange c with
    | some (lo, hi) =>
      let raw := intAt item 2
      let v := clampInt lo hi raw
      (p.setNumeric c v, v != raw)
    | none => (p, false)

/-- R15 step 4: the items one after another. -/
def applyItems (p : Plan) (items : List (List Byte)) : Plan × Bool :=
  items.foldl (fun acc i => ((applyItem acc.1 i).1, acc.2 || (applyItem acc.1 i).2)) (p, false)

/-! ## Validation (R20) -/

/-- The areas other than a. -/
def otherAreas (a : Nat) : List Nat := areaIndexes.filter fun b => b != a

/-- R20: the first law a plan of area a breaks against the live plans of the other areas, with the
subject reported. -/
def State.validate (s : State) (a : Nat) (p : Plan) : Option (OutcomeCode × Nat) :=
  let takenMember (q : Nat) : Bool := (otherAreas a).any fun b => (s.area b).live.hasMember q
  let takenZone (z : Nat) : Bool := (otherAreas a).any fun b => (s.area b).live.hasZone z
  match (List.range 24).find? fun q => p.hasMember q && takenMember q with
  | some q => some (.memberConflict, q)
  | none =>
    match zoneIndexes.find? fun z => p.hasZone z && takenZone z with
    | some z => some (.zoneConflict, z)
    | none =>
      match p.join with
      | none => none
      | some b =>
        if (s.area b).live.join.isSome then some (.joinChain, b)
        else
          match (otherAreas a).find? fun c => s.joinedTo c a with
          | some c => some (.joinChain, c)
          | none => none

/-! ## Applying a take (R21, R61) -/

/-- R61: hold counts above the gate hold are reduced to it. -/
def Area.limitHolds (r : Area) : Area :=
  { r with records := r.records.map fun m => { m with hold := min m.hold r.live.gateHold.toNat } }

/-- R21: the staged rank of area a becomes its live rank, and every block acts on it as R42, R58, R61 and R92
give. TAKE_APPLIED is left to the caller. A take that replaces one join target by another makes no lead check
(log entry 40). -/
def State.applyPlan (s : State) (a : Nat) : State :=
  let wasJoined := (s.area a).live.join.isSome
  let t := s.modArea a fun r => { r with live := r.staged, stagedState := .clean }
  let nowJoined := (t.area a).live.join.isSome
  let t := (t.syncMixers).modArea a Area.limitHolds
  let t := if nowJoined then t.modArea a fun r => { r with pendingRequest := false } else t
  if t.inService a && !(wasJoined && nowJoined) then t.checkLead a else t

/-- R21: a held take of area a is validated and applied, or fails. The mark says that it was
applied. -/
def State.takeHeld (s : State) (a : Nat) : State × Bool :=
  match s.validate a (s.area a).staged with
  | none => ((s.applyPlan a).post .planStore .takeApplied a [f2 0], true)
  | some (reason, subject) =>
    ((s.modArea a fun r => { r with stagedState := .edited }).post
      .planStore .takeFailed a [f1 reason.code, f1 subject], false)

/-- R14: the area holds a take. -/
def State.holdsTake (s : State) (a : Nat) : Bool := (s.area a).stagedState == .held

/-- R10, R19: a take held by an area that is DORMANT is applied at once, without a dip. -/
def State.applyDormantTake (s : State) (a : Nat) : State :=
  if s.holdsTake a && !s.inService a then (s.takeHeld a).1 else s

/-- R19: the takes held by DORMANT areas, in area order. -/
def State.applyDormantTakes (s : State) : State := forEach areaIndexes (fun a t => t.applyDormantTake a) s

end Sys2Proof.Machine
end

