-- ==== Sys2Proof/Machine/Proving.lean ====
section
/-! DEFINITION. The proving unit (chapter 7): generators, the detector, its search, flywheel and
windows. -/

namespace Sys2Proof.Machine

/-! ## Generators (R128 to R130) -/

/-- R128: the magnitude of the proving samples. -/
def Proving.magnitude (p : Proving) : Int := applyGain p.level fullScale

/-- R129: the new bit, the exclusive-or of stages 20 and 17; stage n is bit n − 1. -/
def generatorBit (g : BitVec 20) : Bool := g.getLsbD 19 ^^ g.getLsbD 16

/-- R129: one step of a generator. -/
def generatorStep (g : BitVec 20) : BitVec 20 :=
  (g <<< 1) ||| (if generatorBit g then 1#20 else 0#20)

/-- R129, R130: the proving sample of a zone in TEST, a stored insert inverting its sign. -/
def Zone.provingSample (z : Zone) (magnitude : Int) : Int :=
  if generatorBit z.generator != z.insert then magnitude else -magnitude

/-! ## The detector (R131 to R137) -/

/-- R133, R136: an empty search. The window of a lock that ended reads 0 (log entry 51). -/
def Proving.search (p : Proving) : Proving :=
  { p with state := .searching, shadow := [], confirmed := 0, flywheel := [], progress := 0,
           mismatches := 0 }

/-- R137: the subject of the detector's notices. -/
def Proving.subject (p : Proving) : Nat := (p.assignment.map Prod.fst).getD 255

/-- R137: a detector that leaves LOCKED posts PROVING_LOST with the error count. -/
def State.postLost (s : State) (stamp : Nat) : State :=
  if s.proving.state = .locked then
    s.postAt .proving .provingLost s.proving.subject [f2 s.proving.errors] stamp
  else s

/-- R136: an assigned detector restarts its search. -/
def State.restartDetector (s : State) : State :=
  if s.proving.assignment.isSome then
    let t := s.postLost s.link.counter
    { t with proving := t.proving.search }
  else s

/-- The exclusive-or of the 20th and the 17th newest bits (R133, R134). -/
def predictedBit (bits : List Bool) : Bool := bits.getD 19 false ^^ bits.getD 16 false

/-- R132: the received bit of a raw sense sample, none for a break. -/
def receivedBit (raw : Option Int) : Option Bool :=
  match raw with
  | none => none
  | some x => if 0 < x then some true else if x < 0 then some false else none

/-- R133: one frame of a search. A confirmed count of 32 stands only until PROVING_LOCK is taken. -/
def Proving.searchStep (p : Proving) (bit : Option Bool) : Proving :=
  match bit with
  | none => { p with shadow := [], confirmed := 0 }
  | some b =>
    if p.shadow.length < 20 then { p with shadow := b :: p.shadow }
    else if p.shadow.any id then
      if b = predictedBit p.shadow then
        { p with shadow := (b :: p.shadow).take 20, confirmed := p.confirmed + 1 }
      else { p with shadow := [b], confirmed := 0 }
    else { p with shadow := (b :: p.shadow).take 20 }

/-- R134, R135: one frame while locked. A mismatch count of 16 or a progress of 256 stands only until
PROVING_LOSS or PROVING_WINDOW_END is taken. -/
def Proving.lockStep (p : Proving) (bit : Option Bool) : Proving :=
  let expected := predictedBit p.flywheel
  let miss := bit != some expected
  let p := { p with flywheel := (expected :: p.flywheel).take 20 }
  let p := if miss then { p with errors := sat16 (p.errors + 1), mismatches := p.mismatches + 1 } else p
  if 16 ≤ p.mismatches then p else { p with progress := p.progress + 1 }

/-- R132 to R135: one frame of the detector. -/
def Proving.step (p : Proving) (raw : Option Int) : Proving :=
  match p.state with
  | .idle => p
  | .searching => p.searchStep (receivedBit raw)
  | .locked => p.lockStep (receivedBit raw)

/-! ## The detector's events, outstanding from the frame that brings them about -/

/-- R133: the confirmed count has reached 32. -/
def Proving.lockDue (p : Proving) : Bool := p.state == .searching && decide (32 ≤ p.confirmed)

/-- R135: the window mismatch count has reached 16. -/
def Proving.lossDue (p : Proving) : Bool := p.state == .locked && decide (16 ≤ p.mismatches)

/-- R135: the window progress has reached 256. -/
def Proving.windowDue (p : Proving) : Bool :=
  p.state == .locked && decide (p.mismatches < 16) && decide (256 ≤ p.progress)

/-- R133, R134, R137: PROVING_LOCK. The shadow keeps its 20 bits, and the confirmed count is 0 (log entry 44).
-/
def State.provingLock (s : State) : State :=
  if s.proving.lockDue then
    let t := { s with proving := { s.proving with
      state := .locked, flywheel := s.proving.shadow, confirmed := 0, progress := 0, mismatches := 0 } }
    t.postAt .proving .provingLocked t.proving.subject [f2 t.proving.errors] s.link.stamp
  else s

/-- R135, R137: PROVING_LOSS. -/
def State.provingLoss (s : State) : State :=
  if s.proving.lossDue then
    let t := s.postLost s.link.stamp
    { t with proving := t.proving.search }
  else s

/-- R135: PROVING_WINDOW_END. -/
def State.provingWindowEnd (s : State) : State :=
  if s.proving.windowDue then
    { s with proving := { s.proving with progress := 0, mismatches := 0 } }
  else s

end Sys2Proof.Machine
end

