-- ==== Sys2Proof/Machine/Zones.lean ====
section
/-! DEFINITION. The zone outputs (chapter 6): wanted modes, changes, fades and settles at a block
boundary, service and rest fades, announce entry, and the output arithmetic of a frame. -/

namespace Sys2Proof.Machine

/-! ## Fades (R113, R117) -/

/-- R117: gives a zone's fade a new length; the progress is rescaled and the fade goes on from there. -/
def Zone.setLength (r : Zone) (m : Nat) : Zone :=
  if r.length = m then r else { r with length := m, progress := r.progress * m / r.length }

/-- R117: whether a change that leaves a mode for a target is short. -/
def shortChange (leaving : Mode) (entered : Option OvLine) (target : Mode) (holder : Option OvLine) : Bool :=
  (leaving == .announce && entered == some .evac) || (target == .announce && holder == some .evac)

/-- R117: the length of a change's fades. -/
def fadeLength (short : Bool) : Nat := if short then 384 else 1536

/-- R117: sets the short-change field, and the length of the fade that runs under it. -/
def Zone.setShort (r : Zone) (b : Bool) : Zone := ({ r with short := b }).setLength (fadeLength b)

/-- R108, R117: the same for a fade-out: one that stands at 0 runs no frame, and the length stays that of
the fade last run. -/
def Zone.setShortOut (r : Zone) (b : Bool) : Zone :=
  if r.progress = 0 then { r with short := b } else r.setShort b

/-- R113: one frame's step of a fade. -/
def Zone.stepFade (r : Zone) : Zone :=
  match r.phase with
  | .fadeIn => { r with progress := min r.length (r.progress + 1) }
  | .fadeOut => { r with progress := r.progress - 1 }
  | .steady | .settle => r

/-- R108: a change is in flight. -/
def Zone.changing (r : Zone) : Bool := r.next.isSome || r.phase == .settle

/-! ## The path of a LIVE zone (R118) -/

/-- R118: the progress of a LIVE zone whose path is not available is 0. -/
def State.dropPaths (s : State) : State :=
  s.mapZones fun z r =>
    if r.current = .live ∧ s.pathAvailable z = false then { r with progress := 0 } else r

/-! ## Wanted modes (R111) and the claims of announcements (R120) -/

/-- R111: the wanted mode of a zone and the row that gives it, the standby taken as the boundary
takes it. The row is numbered as R111 numbers it, from 1 (log entry 11). -/
def State.wantedMode (s : State) (standby : Bool) (z : Nat) : Mode × Nat :=
  if standby then (.off, 1)
  else if s.targeted z then (.announce, 2)
  else
    match s.steeringArea z with
    | some b => if s.lineDown b then (.quiet, 3) else ((s.zone z).home, 4)
    | none => ((s.zone z).home, 4)

/-- R120: a zone in ANNOUNCE is wanted by an ACTIVE holder other than the one it entered under. -/
def State.reentryDue (s : State) (wanted : Mode) (z : Nat) : Bool :=
  (s.zone z).current == .announce && wanted == .announce && (s.zone z).entered != s.activeHolder

/-! ## The switch (R115) -/

/-- R77, R102, R120: forms the announce tap of a zone that enters ANNOUNCE under the holder. While L6
is faulted the tap is 0 and the zone is on the bypass; a formation after that takes it off. -/
def State.enterAnnounce (s : State) (z : Nat) : State :=
  let n := (s.line 6).length
  let s := s.modZone z fun r => { r with entered := s.holder }
  if (s.line 6).faulted then s.modZone z fun r => { r with announceTap := 0, bypass := true }
  else
    let raw := match s.holderCopy with
      | some p => s.rawAnnounceTap p z
      | none => 0
    (s.reportTap .zones z n raw).modZone z fun r => { r with announceTap := limitTap n raw, bypass := false }

/-- R102, R115, R130: a zone takes another current mode: leaving ANNOUNCE it has no entered holder and is
off the bypass, leaving TEST it loses its stored insert. -/
def Zone.enter (r : Zone) (x : Mode) : Zone :=
  { r with
    current := x
    entered := if r.current = .announce then none else r.entered
    bypass := if r.current = .announce then false else r.bypass
    insert := if r.current = .test then false else r.insert }

/-- R115: the zone whose new mode is x begins a fade-in at the switch. -/
def fadesIn (x : Mode) (sounding : Bool) : Bool :=
  match x with
  | .test | .announce => true
  | .live => sounding
  | .off | .quiet => false

/-- R115: what a switch leaves of a zone's record: its mode and its fade. A switch that no fade-in follows
completes the change. A short change is short in its fade-in too, whoever the holder (log entry 42). -/
def Zone.switched (r : Zone) (x : Mode) (sounding : Bool) : Zone :=
  let fades := fadesIn x sounding
  { r.enter x with
    next := none, settleCount := 0, progress := 0
    length := if fades then fadeLength r.short else r.length
    short := r.short && fades
    phase := if fades then .fadeIn else .steady
    generator := if x = .test then 1 else r.generator }

/-- R115: the switch of zone z to a mode. A switch into TEST restarts the generator and, for the
assigned zone, the detector (R136); one into ANNOUNCE enters it (R120). -/
def State.switchZone (s : State) (z : Nat) (x : Mode) : State :=
  let s := s.modZone z fun r => r.switched x (s.sounding z)
  match x with
  | .test =>
    match s.proving.assignment with
    | some (q, _) => if q = z then s.restartDetector else s
    | none => s
  | .announce => s.enterAnnounce z
  | .off | .quiet | .live => s

/-! ## Beginning and altering a change (R114, R116) -/

/-- R114, R115: an entering settle toward OFF begins, in QUIET. -/
def Zone.beginEnteringSettle (r : Zone) : Zone :=
  { r.enter .quiet with
    phase := .settle, settleKind := .enteringOff, settleCount := 16, next := some .off, progress := 0 }

/-- R114: a zone with no change in flight begins one toward mode x. -/
def Zone.beginChange (r : Zone) (x : Mode) (holder : Option OvLine) : Zone :=
  let short := shortChange r.current r.entered x holder
  match r.current with
  | .live | .test | .announce => { r.setShortOut short with phase := .fadeOut, next := some x }
  | .quiet =>
    let r := { r with short := short }
    if x = .off then r.beginEnteringSettle
    else { r with phase := .fadeOut, progress := 0, next := some x }
  | .off =>
    { r with short := short, current := .quiet, phase := .settle, settleKind := .leavingOff,
             settleCount := 64, next := some x, progress := 0 }

/-- R116, R117: a change in flight under the wanted mode y; `reentry` says that a re-entry is due. An
entering settle that y calls back to a sounding mode ends in a switch, which the caller makes: the
mark says so. Toward OFF a change is short only if it left ANNOUNCE entered under EVAC, so the mark that an
entering settle carries says that it did. -/
def Zone.alterChange (r : Zone) (y : Mode) (reentry : Bool) (holder : Option OvLine) : Zone × Bool :=
  match r.phase with
  | .fadeOut =>
    if y = r.current ∧ reentry = false then
      (({ r with phase := .fadeIn, next := none }).setShort (shortChange r.current r.entered y holder), false)
    else (({ r with next := some y }).setShortOut (shortChange r.current r.entered y holder), false)
  | .settle =>
    match r.settleKind with
    | .leavingOff => ({ r with next := some y, short := shortChange .off r.entered y holder }, false)
    | .enteringOff =>
      match y with
      | .off => (r, false)
      | .quiet => ({ r with phase := .steady, next := none, settleCount := 0, short := false }, false)
      | .live | .test | .announce =>
        ({ r with next := some y, short := r.short || shortChange .quiet r.entered y holder }, true)
  | .steady | .fadeIn => (r, false)

/-! ## Following the goal in LIVE (R118, R119) -/

/-- R119: the frames from the next frame to the boundary where a rest-fade count reaches 0, for a
request taken after the f-th frame of a block. -/
def restLength (f : Nat) : Nat := 1488 + 48 - f

/-- R119: a rest fade of a length begins. -/
def Zone.beginRestFade (r : Zone) (m : Nat) : Zone :=
  ({ r with phase := .fadeOut, next := none, short := false }).setLength m

/-- The rest-fade count that silences a zone: the smaller running count of its own area and its
steering area (R110, R119). -/
def State.restCountOf (s : State) (z : Nat) : Nat :=
  match s.zoneArea z with
  | none => 0
  | some a =>
    let own := (s.area a).restCount
    let steer := (s.area (s.steeredBy a)).restCount
    if own = 0 then steer else if steer = 0 then own else min own steer

/-- R118: a LIVE zone with wanted mode LIVE and no change in flight follows its goal at a boundary. -/
def Zone.followGoal (r : Zone) (sounding : Bool) (restCount : Nat) : Zone :=
  if sounding then
    if r.progress < r.length then
      if r.phase = .fadeIn then r else ({ r with phase := .fadeIn, short := false }).setLength 1536
    else { r with phase := .steady, short := false }
  else if r.progress = 0 then { r with phase := .steady, short := false }
  else if r.phase = .fadeOut then r
  else r.beginRestFade (max 1 (48 * restCount))

/-! ## A zone at a block boundary -/

/-- R115: the end of a fade-out during a change. -/
def State.fadeOutEnd (s : State) (z : Nat) : State :=
  let r := s.zone z
  match r.phase, r.next with
  | .fadeOut, some x =>
    if r.progress = 0 then
      if x = .off then s.modZone z Zone.beginEnteringSettle else s.switchZone z x
    else s
  | _, _ => s

/-- R115: the end of a settle. -/
def State.settleEnd (s : State) (z : Nat) : State :=
  match (s.zone z).next with
  | some .off | none =>
    s.modZone z fun r =>
      { r with current := .off, phase := .steady, next := none, settleCount := 0, short := false }
  | some x => s.switchZone z x

/-- R115: the end of a fade-in. -/
def Zone.fadeInEnd (r : Zone) : Zone :=
  if r.phase = .fadeIn ∧ r.length ≤ r.progress then { r with phase := .steady, short := false } else r

/-- R115: a settle counts down and ends at 0, unless it began at this boundary. -/
def State.settleTick (s : State) (z : Nat) : State :=
  let r := s.zone z
  if r.phase = .settle ∧ s.early.contains (.settle z) = false then
    if r.settleCount ≤ 1 then s.settleEnd z
    else s.modZone z fun r => { r with settleCount := r.settleCount - 1 }
  else s

/-- R114, R116, R118, R120: zone z takes its wanted mode at a boundary. The mark says that a settle
began here and so is not counted at this boundary. -/
def State.takeWanted (s : State) (y : Mode) (z : Nat) : State × Bool :=
  let r := s.zone z
  let reentry := s.reentryDue y z
  if r.changing then
    let (r', switches) := r.alterChange y reentry s.holder
    let s := s.modZone z fun _ => r'
    if switches then (s.switchZone z y, false) else (s, false)
  else if y ≠ r.current ∨ reentry = true then
    let r' := r.beginChange y s.holder
    (s.modZone z fun _ => r', r'.phase == .settle)
  else if r.current = .live then
    (s.modZone z fun r => r.followGoal (s.sounding z) (s.restCountOf z), false)
  else (s, false)

/-- R111: zone z derives its wanted mode. -/
def State.deriveWanted (s : State) (standby : Bool) (z : Nat) : State :=
  s.modZone z fun r =>
    { r with wanted := (s.wantedMode standby z).1, wantedRow := (s.wantedMode standby z).2 }

/-- Chapter 6: one zone at a block boundary: its wanted mode, then the ends that fall due. -/
def State.zoneBoundary (s : State) (standby : Bool) (z : Nat) : State :=
  let (s, began) := (s.deriveWanted standby z).takeWanted (s.wantedMode standby z).1 z
  let r := s.zone z
  if r.phase = .settle then (if began then s else s.settleTick z)
  else if r.phase = .fadeOut then s.fadeOutEnd z
  else s.modZone z Zone.fadeInEnd

/-- R119, R101: the dip weight of the last frame is carried into the fade weight of a LIVE zone. -/
def Zone.carryDip (r : Zone) : Zone :=
  if r.current = .live then { r with progress := r.progress * r.dipWeight / 4096, dipWeight := 4096 } else r

/-! ## Output arithmetic (R109, R124, R125) -/

/-- R124: the zone gain of the live plan that lists the zone. It is 0 for a zone that no live plan lists (log
entry 11). -/
def State.zoneGain (s : State) (z : Nat) : Int :=
  match s.zoneArea z with
  | none => 0
  | some a => (((s.area a).live.zones.find? fun e => e.zone == z).map ZoneEntry.gain).getD 0

/-- R124: stage y2 of a LIVE zone, before saturation. -/
def liveStage (gain duck y1 : Int) : Int := applyGain (max (-480) (gain - duck)) y1

/-- R124: the combined weight. -/
def combinedWeight (wf wd : Nat) : Nat := (roundDiv ((wf : Int) * wd) 4096).toNat

/-- A weighted pair of 0 and y before its saturation (R5). -/
def weightedRaw (y : Int) (w : Nat) : Int := roundDiv (y * w) 4096

/-- R124, R125: the output sample of stages y2 and y3 from an unsaturated y2, and whether saturation changed
it. A saturation at y2 that the weight hides counts (log entry 43). -/
def outputStages (y2raw : Int) (w : Nat) : Int × Bool :=
  let y2 := saturate y2raw
  let y3raw := weightedRaw y2 w
  (saturate y3raw, y2 != y2raw || saturate y3raw != y3raw)

end Sys2Proof.Machine
end

