-- ==== Sys2Proof/Machine/Steering.lean ====
section
/-! DEFINITION. The steering unit (chapter 5): affected zones, crossfades and dips, their midpoint and
completion with the decision that follows, the retune check, waiting takes, wakes and rests, line
faults and the end of a flush. -/

namespace Sys2Proof.Machine

/-! ## Affected zones and taps (R86, R87, R89) -/

/-- R87: the zones of a list that are in no transition in flight, in rising zone number, the order in which their
clamped taps are reported (log entry 7). -/
def State.freeZones (s : State) (zs : List Nat) : List Nat :=
  zoneIndexes.filter fun z => zs.contains z && (s.inTransition z).isNone

/-- R87: the affected zones of a crossfade, and the zones of a retune check (R95), of area b. -/
def State.crossfadeZones (s : State) (b : Nat) : List Nat := s.freeZones (s.steeredZones b)

/-- R87: the affected zones of a dip on the record of area c for the take of area a. -/
def State.dipZones (s : State) (c a : Nat) : List Nat :=
  s.freeZones ((s.area a).live.zoneList ++ (s.area a).staged.zoneList ++
    if c = a then (s.joinedAreas a).flatMap fun b => (s.area b).live.zoneList else [])

/-- R89: each zone of a list with its current tap and the steered tap formed for it from area b. -/
def State.affectedFrom (s : State) (b : Nat) (zs : List Nat) : List Affected :=
  zs.map fun z => ⟨z, (s.zone z).tap, some (s.steeredTap b z)⟩

/-- R79: reports the steered taps formed from area b for the zones of a list. -/
def State.reportTaps (s : State) (b : Nat) (zs : List Nat) : State :=
  forEach zs (fun z t => t.reportSteered b z) s

/-- R94 step 3: a formed tap differs from the current one. A zone with no current tap moves nothing. -/
def Affected.moves (f : Affected) : Bool :=
  match f.oldTap, f.newTap with
  | some o, some n => o != n
  | _, _ => false

/-- R95: the difference reaches the retune threshold. -/
def Affected.reaches (f : Affected) (threshold : Int) : Bool :=
  match f.oldTap, f.newTap with
  | some o, some n => decide (threshold ≤ |(n : Int) - o|)
  | _, _ => false

/-- R95: an affected zone of a RETUNE crossfade: a zone below the threshold keeps its tap. -/
def Affected.retuned (threshold : Int) (f : Affected) : Affected :=
  if f.reaches threshold then f else { f with newTap := f.oldTap }

/-! ## Starting a transition -/

/-- R89, R92: a transition starts on a record. -/
def Area.begin (r : Area) (kind : TransitionKind) (length : Nat) (zs : List Affected) : Area :=
  { r with transition := some ⟨kind, length, 0, zs, false, false⟩ }

/-- R89: the length in samples of a crossfade of area b. -/
def State.crossfadeLength (s : State) (b : Nat) : Nat := (s.area b).live.crossfade.toNat * 48

/-- R89: a CROSSFADE of area b with reason LEAD starts. -/
def State.startCrossfade (s : State) (b : Nat) : State :=
  let zs := s.crossfadeZones b
  (s.reportTaps b zs).modArea b fun r =>
    r.begin (.crossfade .lead) (s.crossfadeLength b) (s.affectedFrom b zs)

/-- R94 step 3: the pending request of area b is served; nothing starts when no zone's tap moves. -/
def State.servePending (s : State) (b : Nat) : State :=
  let s := s.modArea b fun r => { r with pendingRequest := false }
  let zs := s.crossfadeZones b
  if (s.affectedFrom b zs).any Affected.moves then s.startCrossfade b else s.reportTaps b zs

/-- R95: the retune check of area b. -/
def State.retuneCheck (s : State) (b : Nat) : State :=
  let zs := s.crossfadeZones b
  let formed := s.affectedFrom b zs
  let threshold := (s.area b).live.retune
  let moved := (formed.filter fun f => f.reaches threshold).length
  let t := s.reportTaps b zs
  if moved = 0 then t
  else
    (t.modArea b fun r =>
      r.begin (.crossfade .retune) (s.crossfadeLength b) (formed.map (Affected.retuned threshold))).post
        .steering .retuneStarted b [f2 moved]

/-- R92: the samples of a dip. -/
def dipLength : Nat := 1536

/-- R92: the DIP for the take of area a starts on the record of area c. Until its midpoint an affected
zone's new tap is its old one. -/
def State.startDip (s : State) (c a : Nat) : State :=
  let zs := (s.dipZones c a).map fun z => (⟨z, (s.zone z).tap, (s.zone z).tap⟩ : Affected)
  s.modArea c fun r => r.begin (.dip a) dipLength zs

/-! ## Waiting takes (R91, R94, R97) -/

/-- R9, R19, R91, R97: area a holds a take, and neither an image save, nor a rest fade of its own, nor a
transition on its own record (the remainder of the dip that joined it, R93) holds the dip back. A fault on the
own line of a joined area does not hold its dip back (log entry 41). -/
def State.takeWaits (s : State) (a : Nat) : Bool :=
  s.holdsTake a && s.inService a && (s.area a).restCount == 0 && s.save.isNone &&
    (s.area a).transition.isNone

/-- R17: the dip under way for the take of area a has lost it. -/
def Transition.withdraw (a : Nat) (t : Transition) : Transition :=
  if t.kind = .dip a ∧ t.midDone = false then { t with withdrawn := true } else t

/-- R17: a held take of area a is removed. A dip under way for it runs on, to apply nothing. -/
def State.withdrawTake (s : State) (a : Nat) : State :=
  if s.holdsTake a then
    { s with areas := s.areas.map fun r =>
        { r with transition := r.transition.map (Transition.withdraw a) } }
  else s

/-- R94 steps 1 and 2: the area whose take is dipped next on the record of area c. -/
def State.dipChoice (s : State) (c : Nat) : Option Nat :=
  if s.takeWaits c then some c else (s.joinedAreas c).find? s.takeWaits

/-- R91: a dip starts on the record of area c when its phase is SETTLED and a take waits for it. -/
def State.startWaitingDip (s : State) (c : Nat) : State :=
  if s.phase c = .settled then
    match s.dipChoice c with
    | some a => s.startDip c a
    | none => s
  else s

/-! ## Completion and its decision (R94) -/

/-- R94: the decision for the record of area b, in phase SETTLED. -/
def State.decision (s : State) (b : Nat) : State :=
  match s.dipChoice b with
  | some a => s.startDip b a
  | none => if (s.area b).pendingRequest then s.servePending b else s.retuneCheck b

/-- R94, R98: the decision for the record of area b, which is made in phase SETTLED alone. -/
def State.decideSettled (s : State) (b : Nat) : State :=
  if s.phase b = .settled then s.decision b else s

/-- R87: the affected zones of an ended transition of area b are released: a steering area other than b
owes a retune check. -/
def State.release (s : State) (b : Nat) (zs : List Affected) : State :=
  forEach (zs.map Affected.zone) (fun z t =>
    match t.steeringArea z with
    | some c => if c = b then t else t.modArea c fun r => { r with checkDue := true }
    | none => t) s

/-- R86: gives each affected zone a current tap. -/
def State.settleTaps (s : State) (zs : List Affected) (tap : Affected → Option Nat) : State :=
  zs.foldl (fun t f => t.modZone f.zone fun r => { r with tap := tap f, dipWeight := 4096 }) s

/-- R90, R92: the transition of a record has sent its last sample. -/
def Area.transitionDone (r : Area) : Bool := r.transition.any fun t => decide (t.length ≤ t.progress)

/-- R94: TRANSITION_COMPLETE for the record of area b. -/
def State.transitionComplete (s : State) (b : Nat) : State :=
  match (s.area b).transition with
  | none => s
  | some t =>
    if t.length ≤ t.progress then
      let s := (s.settleTaps t.zones Affected.newTap).modArea b fun r => { r with transition := none }
      (s.release b t.zones).decideSettled b
    else s

/-! ## The midpoint of a dip (R92, R118) -/

/-- A dip stands at its midpoint. -/
def Transition.midpointDue (t : Transition) : Bool :=
  (match t.kind with
    | .dip _ => true
    | .crossfade _ => false) && decide (768 ≤ t.progress) && !t.midDone

/-- R92 items 2 to 4: the second half's tap of an affected zone, and whether it was formed. A zone of an area
that is not IN_SERVICE keeps its old tap (log entry 39). -/
def State.midpointTap (s : State) (applied : Bool) (f : Affected) : Option Nat × Bool :=
  match s.zoneArea f.zone with
  | none => (none, false)
  | some a =>
    if applied && s.inService a then (some (s.steeredTap (s.steeredBy a) f.zone), true)
    else (f.oldTap, false)

/-- R118: a LIVE zone with no change in flight whose path comes at a dip's midpoint stands at full
progress. -/
def Zone.midpointUp (r : Zone) : Zone :=
  if r.current = .live ∧ r.changing = false then
    { r with phase := .steady, progress := 1536, length := 1536, short := false }
  else r

/-- R99: after a take applied at the midpoint of the dip on the record of area b, each zone in no live
plan has no tap; one that is an affected zone of another record (R87) has none there either. -/
def State.dropTaps (s : State) (b : Nat) : State :=
  let homeless (z : Nat) : Bool := (s.zoneArea z).isNone
  let forget (f : Affected) : Affected :=
    if homeless f.zone then { f with oldTap := none, newTap := none } else f
  let t := s.mapZones fun z r => if homeless z then { r with tap := none } else r
  { t with areas := t.areas.mapIdx fun c r =>
      if c = b then r
      else { r with transition := r.transition.map fun x => { x with zones := x.zones.map forget } } }

/-- R92: DIP_MIDPOINT for a dip on the record of area b. -/
def State.dipMidpoint (s : State) (b : Nat) : State :=
  match (s.area b).transition with
  | none => s
  | some t =>
    if t.midpointDue then
      let a := match t.kind with
        | .dip a => a
        | .crossfade _ => b
      let (u, applied) := if s.holdsTake a && !t.withdrawn then s.takeHeld a else (s, false)
      let zs := t.zones.map fun f => { f with newTap := (u.midpointTap applied f).1 }
      let v := forEach ((t.zones.filter fun f => (u.midpointTap applied f).2).map Affected.zone)
        (fun z w =>
          match w.steeringArea z with
          | some c => w.reportSteered c z
          | none => w) u
      let v := v.modArea b fun r => { r with transition := some { t with zones := zs, midDone := true } }
      let v := if applied then v.dropTaps b else v
      let v := forEach (t.zones.map Affected.zone) (fun z w =>
        let w := if (w.zoneArea z).isNone then w.modZone z fun r => { r with tap := none } else w
        if w.pathAvailable z && !s.pathAvailable z then w.modZone z Zone.midpointUp else w) v
      v.dropPaths
    else s

/-! ## Steering requests (R88) -/

/-- R88: a steering request for area b is taken. -/
def State.steeringRequest (s : State) (b : Nat) : State :=
  let s := s.modArea b fun r => { r with due := false }
  match s.phase b with
  | .settled =>
    if s.holdsTake b then s.modArea b fun r => { r with pendingRequest := true } else s.startCrossfade b
  | .crossfade | .dip | .resting => s.modArea b fun r => { r with pendingRequest := true }
  | .faulted | .idle | .resetting => s

/-! ## Abandoning (R98, R101, R119) -/

/-- R98: the tap an abandoned transition leaves an affected zone. -/
def Transition.abandonedTap (t : Transition) (f : Affected) : Option Nat :=
  match t.kind with
  | .crossfade _ => f.newTap
  | .dip _ => if t.midDone then f.newTap else f.oldTap

/-- R98, R101: the transition on the record of area b is abandoned. `carry` says for which transitions
the dip weight is carried into the fades (R119), those of every LIVE zone of the dip, one with a change in flight
too (log entry 50). -/
def State.abandon (s : State) (b : Nat) (carry : Transition → Bool) : State :=
  match (s.area b).transition with
  | none => s
  | some t =>
    let s := if carry t then forEach (t.zones.map Affected.zone) (fun z u => u.modZone z Zone.carryDip) s
      else s
    let s := (s.settleTaps t.zones t.abandonedTap).modArea b fun r => { r with transition := none }
    s.release b t.zones

/-- R119: a REST AREA carries the weight of a dip that has not reached its midpoint. -/
def Transition.carriedAtRest (t : Transition) : Bool :=
  (match t.kind with
    | .dip _ => true
    | .crossfade _ => false) && !t.midDone

/-- R119: a line fault carries the weight of any dip it abandons. -/
def Transition.carriedAtFault (t : Transition) : Bool :=
  match t.kind with
  | .dip _ => true
  | .crossfade _ => false

/-- R98: REST AREA reaches the steering unit: the transitions on the record of area b and of the areas
joined to it are abandoned and its pending request is cleared. -/
def State.abandonForRest (s : State) (b : Nat) : State :=
  (forEach (b :: s.joinedAreas b) (fun a t => t.abandon a Transition.carriedAtRest) s).modArea b
    fun r => { r with pendingRequest := false, decisionDue := false }

/-! ## Wake and rest end (R8, R10, R98) -/

/-- R8, R58, R98: area b is woken from DORMANT. Clamped taps are reported in the order of forming (log entry
7). -/
def State.wake (s : State) (b : Nat) : State :=
  let s := (s.modArea b fun r =>
    { r.restLead with service := .inService, restCount := 0, pendingRequest := false, decisionDue := false,
                      checkDue := false }).syncMixers
  match (s.area b).live.join with
  | some c => s.formTaps c (s.area b).live.zoneList
  | none =>
    s.formTaps b ((s.area b).live.zoneList ++
      ((s.joinedAreas b).filter s.inService).flatMap fun a => (s.area a).live.zoneList)

/-- R8, R98: a running rest fade of area b is cancelled; the decision follows at the next boundary. -/
def State.cancelRest (s : State) (b : Nat) : State :=
  s.modArea b fun r => { r with restCount := 0, decisionDue := true }

/-- R10: the rest fade of area b ends. -/
def State.restFadeEnd (s : State) (b : Nat) : State :=
  let s := s.modArea b fun r =>
    { r with service := .dormant, restCount := 0, pendingRequest := false, decisionDue := false,
             checkDue := false }
  ((s.applyDormantTake b).syncMixers).dropPaths

/-! ## Line faults and flushes (R100 to R104) -/

/-- R100 to R102: a parity mismatch is read on line Lk. -/
def State.lineFault (s : State) (k : Nat) : State :=
  if (s.line k).faulted then s
  else
    let s := (s.modLine k fun l => { l with faulted := true }).post .steering .lineFault k [f2 0]
    if k = 6 then
      s.mapZones fun _ r => if r.current = .announce then { r with bypass := true } else r
    else
      let areas := k :: s.joinedAreas k
      let s := forEach areas (fun a t => t.abandon a Transition.carriedAtFault) s
      (forEach areas (fun a t => t.modArea a fun r => { r with pendingRequest := false }) s).dropPaths

/-- R103: the blocks a flush of a line of n blocks lasts. -/
def flushBlocks (n : Nat) : Nat := max 1 ((n + 63) / 64)

/-- R104: the flush of line Lk ends. -/
def State.endFlush (s : State) (k : Nat) : State :=
  let s := State.modLine { s.zeroLine k with flush := none } k fun l => { l with faulted := false }
  let s := s.post .steering .flushDone k [f2 0]
  if k < 6 ∧ s.running k = true then s.formTaps k (zoneIndexes.filter fun z => s.steeringArea z == some k)
  else s

end Sys2Proof.Machine
end

