-- ==== Sys2Proof/Machine/Overrides.lean ====
section
/-! DEFINITION. The override controller (chapter 8): line samples, latches and requests, the arbiter,
countdowns, the start, loss and release of the announce bus, and the announce bus sample. -/

namespace Sys2Proof.Machine

/-! ## Requests (R142 to R146) -/

/-- R142: the level of a line's contact. -/
def contactOf (c : Contacts) : OvLine → Bool
  | .evac => c.evac
  | .o1 => c.o1
  | .o2 => c.o2
  | .o3 => c.o3
  | .o4 => c.o4

/-- R142: the samples of a boundary: the line's sample and the one before it. -/
def Override.sampleLine (r : Override) (active : Bool) : Override :=
  { r with previous := r.sample, sample := active }

/-- R142: an edge sets the EDGE latch of an O line. -/
def Override.edgeSets (r : Override) (enable : Bool) : Bool :=
  r.sample && !r.previous && enable && r.programme.trigger == .edge && r.programme.targets != 0

/-- R142, R143: latch and suppression of an O line at a boundary. -/
def Override.latchStep (r : Override) (enable : Bool) : Override :=
  { r with latch := r.latch || r.edgeSets enable, suppressed := r.suppressed && r.sample }

/-- R143: the request of a LEVEL line stands. -/
def Override.levelRequest (r : Override) (enable : Bool) : Bool :=
  r.sample && enable && r.programme.trigger == .level && r.programme.targets != 0 && !r.suppressed

/-- R146: the trigger this chapter uses: that of the running copy while the override holds the bus. -/
def Override.trigger (r : Override) : Trigger :=
  match r.copy with
  | some p => p.trigger
  | none => r.programme.trigger

/-- R146: an O override is requesting the bus. -/
def Override.requesting (r : Override) (enable : Bool) : Bool :=
  match r.trigger with
  | .edge => r.latch
  | .level => r.levelRequest enable

/-- R146: the override of a line is requesting the bus. -/
def State.requesting (s : State) (l : OvLine) : Bool :=
  match l with
  | .evac => (s.ov .evac).latch
  | .o1 | .o2 | .o3 | .o4 => (s.ov l).requesting s.overrideEnable

/-- R146: an override that does not hold the bus is REQUESTING while it requests, and IDLE otherwise. -/
def State.followRequest (s : State) (l : OvLine) : State :=
  if s.holder = some l then s
  else s.modOv l fun r => { r with state := if s.requesting l then .requesting else .idle }

/-- R145: the EVAC latch is set; from clear it sets the EVAC flag. -/
def State.setEvacLatch (s : State) : State :=
  if (s.ov .evac).latch then s
  else
    State.modOv { s with status := { s.status with evac := true } } .evac fun r => { r with latch := true }

/-- Runs one update for each line of a list, in order. -/
def forLines (l : List OvLine) (f : OvLine → State → State) (s : State) : State :=
  l.foldl (fun t n => f n t) s

/-- R142 steps 1 and 2: samples, latches and requests. -/
def State.sampleLines (s : State) : State :=
  let s := forLines ovLines (fun l t => t.modOv l fun r => r.sampleLine (contactOf s.contacts l)) s
  let s := if (s.ov .evac).sample then s.setEvacLatch else s
  let s := forLines oLines (fun l t => t.modOv l fun r => r.latchStep t.overrideEnable) s
  forLines ovLines (fun l t => t.followRequest l) s

/-! ## Starting, ending and losing the bus (R148 to R150) -/

/-- R152: the presence of a programme's source, as the controller sees it. -/
def sourcePresence (port slot : Presence) : Source → Presence
  | .localPort => port
  | .slot => slot

/-- R152: a countdown is loaded with units of 100 blocks. -/
def loaded (units : Nat) : Countdown := .running (units * 100)

/-- R148, R152: the countdown at the start of an override under a programme. -/
def startCountdown (l : OvLine) (p : Programme) (presence : Presence) : Countdown :=
  match l with
  | .evac => .none
  | .o1 | .o2 | .o3 | .o4 =>
    match p.trigger with
    | .level => .none
    | .edge =>
      match p.countStart, presence with
      | .atSourceEnd, .present => .stopped
      | _, _ => loaded p.duration.toNat

/-- R148: the record of an override that starts. -/
def Override.start (r : Override) (l : OvLine) (view : Source → Presence) : Override :=
  let p := if l = .evac then { r.programme with targets := 0xFFFF#16 } else r.programme
  { r with
    state := .active, copy := some p, durationInForce := p.duration.toNat, tailInForce := p.tail.toNat
    latch := if l = .evac then r.latch else false
    countdown := startCountdown l p (view p.source) }

/-- R148: the override of a line becomes holder, having displaced another or none. -/
def State.startOverride (s : State) (l : OvLine) (displaced : Option OvLine)
    (view : Source → Presence) : State :=
  let s := State.modOv { s with holder := some l, standby := false } l fun r => r.start l view
  match l with
  | .evac => s.post .overrides .evacState 0 [f2 OverrideState.active.code]
  | .o1 | .o2 | .o3 | .o4 => s.post .overrides .overrideStarted l.code [f2 (ovOptCode displaced)]

/-- R150: an ACTIVE override turns ENDING. -/
def Override.turnEnding (r : Override) : Override := { r with state := .ending, countdown := .none }

/-- R146: an override that stops holding the bus loses copy and countdown. -/
def Override.dropCopy (r : Override) : Override := { r with copy := none, countdown := .none }

/-- R149: the old holder is disposed of when another override takes the bus: its notice by the trigger of its copy,
its state by that of its stored programme (log entry 55). -/
def State.loseBus (s : State) (old : OvLine) (taker : OvLine) : State :=
  let r := s.ov old
  let request := s.requesting old
  let t := State.modOv { s with holder := none } old Override.dropCopy
  let t := t.followRequest old
  match r.state, r.trigger with
  | .ending, _ => t.post .overrides .overrideEnded old.code [f2 0]
  | _, .level => if request then t else t.post .overrides .overrideDiscarded old.code [f2 taker.code]
  | _, .edge => t.post .overrides .overrideDiscarded old.code [f2 taker.code]

/-- R150: the ENDING holder is released. -/
def State.releaseBus (s : State) (l : OvLine) : State :=
  (State.modOv { s with holder := none } l fun r => { r.dropCopy with state := .idle }).post
    .overrides .overrideEnded l.code [f2 0]

/-- R150: some zone's current mode is ANNOUNCE. -/
def State.announcing (s : State) : Bool := s.zones.any fun z => z.current == .announce

/-! ## The arbiter (R147) -/

/-- R147: the highest-priority requesting override of a list in priority order. -/
def State.firstRequesting (s : State) (l : List OvLine) : Option OvLine := l.find? s.requesting

/-- R147: the lines of higher priority than a line. -/
def higherThan (l : OvLine) : List OvLine := ovLines.takeWhile fun m => m != l

/-- R147: the holder is handed the bus's new claimant, itself restarting or another. The old holder's notice is
posted first (log entry 52). -/
def State.handOver (s : State) (old taker : OvLine) (view : Source → Presence) : State :=
  if old = taker then s.startOverride taker none view
  else (s.loseBus old taker).startOverride taker (some old) view

/-- R147: arbitration, step 4 of R142. A holder that turned ENDING at this boundary is not released at
it (R150). -/
def State.arbitrate (s : State) (view : Source → Presence) : State :=
  match s.holder with
  | none =>
    match s.firstRequesting ovLines with
    | some l => s.startOverride l none view
    | none => s
  | some h =>
    if (s.ov h).state = .ending then
      match s.firstRequesting ovLines with
      | some l => s.handOver h l view
      | none => if s.announcing || s.early.contains .turned then s else s.releaseBus h
    else
      match s.firstRequesting (higherThan h) with
      | some l => s.handOver h l view
      | none => s

/-! ## Countdowns (R151 to R153) -/

/-- R151: one step of a countdown; expired when it stands at 0. -/
def Override.stepCountdown (r : Override) : Override :=
  match r.countdown with
  | .running v => if v ≤ 1 then r.turnEnding else { r with countdown := .running (v - 1) }
  | .none | .stopped => r

/-- R151, R153: step 3 of R142 for the holder; `fresh` says that its countdown was loaded at this
boundary. -/
def Override.countdownStep (r : Override) (fresh : Bool) : Override :=
  match r.trigger with
  | .edge => if fresh then r else r.stepCountdown
  | .level =>
    if r.sample then { r with countdown := .none }
    else
      match r.countdown with
      | .none => { r with countdown := loaded r.tailInForce }
      | .stopped | .running _ => r.stepCountdown

/-- Marks an event taken at the present boundary. -/
def State.markEarly (s : State) (e : Early) : State := { s with early := e :: s.early }

/-- R150: marks that an override turned ENDING at this boundary. -/
def State.markTurned (s : State) : State := s.markEarly .turned

/-- R151: step 3 of R142. EVAC has no countdown, and one that an image load loaded at this boundary is first
stepped at the next. -/
def State.stepCountdowns (s : State) (fresh : Bool) : State :=
  match s.activeHolder with
  | none | some .evac => s
  | some l =>
    let t := s.modOv l fun r => r.countdownStep (fresh || s.early.contains .loaded)
    if (t.ov l).state = .ending then t.markTurned else t

/-- R150, R151: COUNTDOWN_EXPIRY: the holder turns ENDING at a boundary. -/
def State.expire (s : State) (l : OvLine) : State := (s.modOv l Override.turnEnding).markTurned

/-- R150: a request turns the ACTIVE override of a line ENDING. One taken right after a boundary is not
released before the next. -/
def State.turnByRequest (s : State) (l : OvLine) : State :=
  let t := s.modOv l Override.turnEnding
  if s.link.inBlock = 0 then t.markTurned else t

/-- R152: the holder's countdown as a turn of its source's presence leaves it. -/
def Override.sourceTurn (r : Override) (source : Source) (p : Presence) : Override :=
  match r.copy with
  | none => r
  | some c =>
    if r.state = .active ∧ c.trigger = .edge ∧ c.countStart = .atSourceEnd ∧ c.source = source then
      match p, r.countdown with
      | .absent, .stopped => { r with countdown := loaded r.durationInForce }
      | .present, .running _ => { r with countdown := .stopped }
      | _, _ => r
    else r

/-- R34, R152: a turn of presence reaches the override that holds the bus. EVAC has no countdown. -/
def State.sourceTurn (s : State) (source : Source) (p : Presence) : State :=
  match s.holder with
  | none | some .evac => s
  | some l => s.modOv l fun r => r.sourceTurn source p

/-- The countdown of the override that holds the bus. -/
def State.holderCountdown (s : State) : Countdown :=
  match s.holder with
  | none => .none
  | some l => (s.ov l).countdown

/-- R152: the turns of presence of a boundary, in order, reach the holder's countdown. The mark says
that the last to change it loaded it. -/
def State.sourceTurns (s : State) (turns : List (Source × Presence)) : State × Bool :=
  turns.foldl (fun t c =>
    let u := t.1.sourceTurn c.1 c.2
    (u, if u.holderCountdown = t.1.holderCountdown then t.2 else u.holderCountdown != .stopped)) (s, false)

/-! ## The settings of a boundary (R141, R144) -/

/-- R141 steps 3 and 4: a programme is stored for a line. -/
def State.storeProgramme (s : State) (l : OvLine) (p : Programme) : State :=
  match l with
  | .evac => s.modOv .evac fun r =>
      { r with programme := { r.programme with source := p.source, position := p.position, gain := p.gain } }
  | .o1 | .o2 | .o3 | .o4 => s.modOv l fun r =>
      let drops := r.latch && (p.trigger == .level || p.targets == 0)
      { r with
        programme := p
        latch := r.latch && !drops
        state := if drops && r.state == .requesting then .idle else r.state }

/-- R140: the stored programmes of the five lines. -/
def State.programmes (s : State) : PerLine Programme :=
  ⟨(s.ov .evac).programme, (s.ov .o1).programme, (s.ov .o2).programme, (s.ov .o3).programme,
    (s.ov .o4).programme⟩

/-- Every line's stored programme is set. -/
def State.setProgrammes (s : State) (ps : PerLine Programme) : State :=
  forLines ovLines (fun l t => t.modOv l fun r => { r with programme := ps.get l }) s

/-- Marks the enable and the programmes that an image load replaces at this boundary. -/
def State.markSettings (s : State) : State := s.markEarly (.settings s.overrideEnable s.programmes)

/-- The enable and programmes that an image load has replaced at this boundary. -/
def State.replaced (s : State) : Option (Bool × PerLine Programme) :=
  s.early.findSome? fun
    | .settings enable ps => some (enable, ps)
    | _ => none

/-- R141, R144: the part as its lines find it at a boundary: programmes that an image load installs at it,
and an enable that it sets, govern the lines from the next. An enable that it clears is clear at once. -/
def State.withReplaced (s : State) : State :=
  match s.replaced with
  | none => s
  | some (enable, ps) => State.setProgrammes { s with overrideEnable := s.overrideEnable && enable } ps

/-- R141, R144: an update of the lines under the settings that govern them at this boundary. The programmes
installed at it are then stored as R141 gives, and stand with their enable. -/
def State.underReplaced (s : State) (act : State → State) : State :=
  match s.replaced with
  | none => act s
  | some _ =>
    let t := forLines ovLines (fun l u => u.storeProgramme l (s.programmes.get l)) (act s.withReplaced)
    { t with overrideEnable := s.overrideEnable }

/-- R142: the controller's update of a boundary, with the turns of presence taken before it or after it
(R152); `old` and `new` are the presences before and after the turns. -/
def State.controllerBoundary (s : State) (turns : List (Source × Presence))
    (old new : Source → Presence) : State :=
  let first := turns.isEmpty || Config.presenceFirst s.choices
  let s := if turns.isEmpty then s else { s with choices := s.choices + 1 }
  let (s, fresh) := if first then s.sourceTurns turns else (s, false)
  let s := s.underReplaced fun t => (t.sampleLines.stepCountdowns fresh).arbitrate (if first then new else old)
  if first then s else (s.sourceTurns turns).1

/-! ## The events that fall due (R150, R151) -/

/-- R151: the holder's countdown reaches 0 at the coming boundary: a tail does only while its contact
stays inactive (R153), and a countdown loaded at this boundary does not. -/
def State.expiryDue (s : State) : Option OvLine :=
  match s.activeHolder with
  | none | some .evac => none
  | some l =>
    let r := s.ov l
    match r.countdown with
    | .running v =>
      if v ≤ 1 ∧ ((r.trigger = .edge ∧ s.early.contains .loaded = false) ∨
          (r.trigger = .level ∧ contactOf s.contacts l = false))
      then some l else none
    | .none | .stopped => none

/-- R150: the ENDING holder that no requester displaces once no zone is in ANNOUNCE. -/
def State.releaseDue (s : State) : Option OvLine :=
  match s.holder with
  | none => none
  | some l =>
    if (s.ov l).state = .ending ∧ s.announcing = false ∧ s.firstRequesting ovLines = none ∧
        s.early.contains .turned = false then some l
    else none

/-! ## The enable (R144) -/

/-- R144: an O override under an enable that is cleared. -/
def Override.disable (r : Override) : Override :=
  { r with latch := false, state := if r.state = .requesting then .idle else r.state }

/-- R144: the ACTIVE O override turns ENDING. -/
def State.endActiveO (s : State) : State :=
  match s.activeHolder with
  | none | some .evac => s
  | some l => s.turnByRequest l

/-- R144: the override enable is written. -/
def State.setEnable (s : State) (enable : Bool) : State :=
  if enable = s.overrideEnable then s
  else if enable then { s with overrideEnable := true }
  else forLines oLines (fun l t => t.modOv l Override.disable) { s.endActiveO with overrideEnable := false }

/-- R144, R150: the enable of an image installed at a boundary. An override that it turns ENDING is not
released at that boundary. -/
def State.installEnable (s : State) (enable : Bool) : State :=
  let t := s.setEnable enable
  if t.activeHolder = s.activeHolder then t else t.markTurned

/-! ## The announce bus (R157) -/

/-- R157: the announce bus sample from the port's and the announce channel's samples. -/
def State.announceSample (s : State) (port : Int) : Int :=
  match s.holderCopy with
  | none => 0
  | some p =>
    let x := match p.source with
      | .localPort => port
      | .slot => if (s.channel 24).presence = .present then (s.channel 24).concealed else 0
    saturate (applyGain p.gain x)

end Sys2Proof.Machine
end

