-- ==== Sys2Proof/Machine/Channels.lean ====
section
/-! DEFINITION. The input channels (chapter 2): raw samples, concealment, clip marks, block levels,
presence monitors and what hands their turns on, the slot map, the local announce port. -/

namespace Sys2Proof.Machine

/-! ## Raw samples (R29) -/

/-- 11.1: the valid mark of a status byte. -/
def Slot.validMark (x : Slot) : Bool := x.status.getLsbD 7

/-- 11.1: the source-clip mark of a status byte. -/
def Slot.clipMark (x : Slot) : Bool := x.status.getLsbD 6

/-- R29: the raw sample of a slot entry in a frame period: its value and source-clip mark, or none when
invalid. `frame` is the frame that counts as read: none while LOST or when the period is bad. -/
def rawSample (frame : Option ChainFrame) (slot : Option Nat) : Option (Int × Bool) :=
  match frame, slot with
  | some f, some n =>
    match f.slots[n]? with
    | some x => if Slot.validMark x then some (x.sample.toInt, Slot.clipMark x) else none
    | none => none
  | _, _ => none

/-! ## One channel's frame (R30, R31, R32) -/

/-- R30: the concealed sample and the held state of a channel after a raw sample; the block's count of
valid samples and its peak follow (R32, R33). -/
def Channel.frame (c : Channel) (raw : Option (Int × Bool)) : Channel :=
  match raw with
  | some (x, _) =>
    { c with held := x, run := 0, concealed := x, valid := c.valid + 1, peak := max c.peak x.natAbs }
  | none =>
    let run := min 5 (c.run + 1)
    let y := if run ≤ 4 then c.held else 0
    { c with run := run, concealed := y, peak := max c.peak y.natAbs }

/-- The slot entry of channel c (R27). -/
def SlotMap.entry (m : SlotMap) (c : Nat) : Option Nat :=
  if c = 24 then m.announce else m.positions.getD c none

/-- R31: a valid sample with a source-clip mark. -/
def State.clipDetect (s : State) (c : Nat) (raw : Option (Int × Bool)) : State :=
  match raw with
  | some (_, true) =>
    let r := s.status
    let s := { s with status := { r with clips := r.clips.modify c fun n => sat16 (n + 1) } }
    if r.clip.getLsbD c then s else s.post .inputs .clip c [f2 0]
  | _ => s

/-- The channel numbers: the positions, then the announce channel. -/
def channelIndexes : List Nat := List.range 25

/-- R29 to R31: every channel reads its slot. The clips of one frame are posted in rising channel order (log
entry 7). -/
def State.readChannels (s : State) (frame : Option ChainFrame) : State :=
  forEach channelIndexes (fun c t =>
    let raw := rawSample frame (t.slotMap.entry c)
    (t.clipDetect c raw).modChannel c fun r => r.frame raw) s

/-! ## Presence monitors (R33, R34) -/

/-- R33: the state of a slot monitor on its updated history. -/
def nextPresence (p : Presence) (h : List Bool) : Presence :=
  match p with
  | .present => if (h.drop 8).any id then .present else .absent
  | .absent => if 28 ≤ h.count true ∧ longestFalseRun h 0 0 < 3 then .present else .absent

/-- R32, R33: a channel at a block boundary. `measure` says that the level is taken over (R32, R40). -/
def Channel.close (c : Channel) (measure : Bool) : Channel :=
  let h := shiftHistory c.history (c.valid == 48)
  { c with
    level := if measure then blockLevel c.peak else c.level
    history := h
    presence := nextPresence c.presence h
    valid := 0
    peak := 0 }

/-- R34: a change of presence sets the flag and posts PRESENCE. -/
def State.postPresence (s : State) (monitor : Nat) (p : Presence) : State :=
  s.post .inputs .presence monitor [f2 p.code]

/-- R32: the level of a block is taken over unless the block is one of an AUDIO reset's. -/
def State.measuring (s : State) : Bool := s.audioReset.isNone && !s.early.contains .resetEnd

/-- R32, R33, R34: every channel at a block boundary, its changes of presence posted. They are posted in
rising channel order (log entry 7). -/
def State.closeChannels (s : State) : State :=
  let measure := s.measuring
  forEach channelIndexes (fun c t =>
    let before := (t.channel c).presence
    let t := t.modChannel c fun r => r.close measure
    if (t.channel c).presence = before then t else t.postPresence c (t.channel c).presence) s

/-- The channel's level at the coming boundary. -/
def State.levelAhead (s : State) (c : Nat) : Int := ((s.channel c).close s.measuring).level

/-- Whether the channel is PRESENT at the coming boundary. -/
def State.presentAhead (s : State) (c : Nat) : Bool :=
  ((s.channel c).close s.measuring).presence == .present

/-! ## Changes of the slot map (R28, R40) -/

/-- R28: a channel whose entry has changed. -/
def Channel.slotChanged (c : Channel) : Channel :=
  { c with presence := .absent, history := List.replicate 32 false, held := 0, run := 0 }

/-- R28, R34: channel c's entry has changed. `report` is clear for the resets (R34, R40). -/
def State.entryChanged (s : State) (report : Bool) (c : Nat) : State :=
  let was := (s.channel c).presence
  let s := s.modChannel c Channel.slotChanged
  if was = .present then
    let s := if report then s.postPresence c .absent else s
    if c = 24 then s.sourceTurn .slot .absent else s
  else s

/-- R28, R40: a new slot map is installed; each changed entry acts on its channel. Turns to ABSENT are posted
in rising channel order (log entry 7). -/
def State.installMap (s : State) (report : Bool) (m : SlotMap) : State :=
  let changed := channelIndexes.filter fun c => m.entry c != s.slotMap.entry c
  forEach changed (fun c t => t.entryChanged report c) { s with slotMap := m }

/-- R190: the slot map of an image is installed at a boundary. A countdown that it loads is first stepped at
the next (R151). -/
def State.loadMap (s : State) (m : SlotMap) : State :=
  let t := s.installMap true m
  if t.holderCountdown = s.holderCountdown then t else t.markEarly .loaded

/-- R28: two zones of a map have the same output slot. -/
def SlotMap.slotTwice (m : SlotMap) (n : Nat) : Bool := 2 ≤ m.zones.count (some n)

/-! ## The local announce port (R35 to R38) -/

/-- R35: the fill at which reads resume. -/
def Port.half (p : Port) : Nat := p.depth / 2

/-- R35: a turn of the port's presence, handed on at the next boundary (R34). -/
def Port.turn (p : Port) (x : Presence) : Port := { p with presence := x, turns := p.turns ++ [x] }

/-- R35, R36, R38: a word is written into a store that recentres. -/
def Port.recentre (p : Port) (x : Int) : Port :=
  let p := { p with store := p.store ++ [x] }
  if p.half ≤ p.store.length then
    let p := { p with resume := true }
    if p.presence = .absent then p.turn .present else p
  else p

/-- R36: the store is being read, or is to be from the next frame on. -/
def Port.serving (p : Port) : Bool := p.presence == .present && (p.reading || p.resume)

/-- R36: a word is appended to a store in service. -/
def Port.append (p : Port) (x : Int) : Port :=
  let p := { p with store := p.store ++ [x] }
  { p with slipPending := p.depth - 2 ≤ p.store.length }

/-- R36: a slip sets its flag, counts, and posts SLIP when the flag was clear. -/
def State.slip (s : State) (overflow : Bool) : State :=
  let r := s.status
  if overflow then
    let s := { s with status := { r with slipsOver := sat16 (r.slipsOver + 1) } }
    if r.slipOver then s else s.post .inputs .slip 25 [f2 0]
  else
    let s := { s with status := { r with slipsUnder := sat16 (r.slipsUnder + 1) } }
    if r.slipUnder then s else s.post .inputs .slip 25 [f2 1]

/-- R35 to R37: a word arrives at the local announce port. -/
def State.portWord (s : State) (w : RawSample) : State :=
  let s := { s with port := { s.port with silent := 0, wordSeen := true } }
  if s.port.serving then
    if s.port.slipPending then State.slip { s with port := { s.port with slipPending := false } } true
    else { s with port := s.port.append w.toInt }
  else { s with port := s.port.recentre w.toInt }

/-- R35: the count stands at 48 with something left to end. -/
def Port.absentDue (p : Port) : Bool :=
  decide (48 ≤ p.silent) && (p.presence == .present || !p.store.isEmpty)

/-- R35: LOCAL_PORT_ABSENT. A pending slip goes with it (log entry 33). -/
def Port.silence (p : Port) : Port :=
  if p.absentDue then
    let p := { p with store := [] }
    if p.presence = .present then
      { p.turn .absent with reading := false, resume := false, slipPending := false, lastRead := 0 }
    else p
  else p

/-- R36: one frame's read: the sample delivered, the port after it, and whether it slipped. -/
def Port.read (p : Port) : Int × Port × Bool :=
  if p.presence = .present ∧ p.reading = true then
    if p.store.length ≤ 2 then (p.lastRead, p, true)
    else
      let x := p.store.headD 0
      (x, { p with store := p.store.drop 1, lastRead := x }, false)
  else (0, p, false)

/-- R35, R36: what a frame leaves of the port after its read: the count of frames without a word, and
reads that resume from the next frame. -/
def Port.endFrame (p : Port) : Port :=
  { p with
    silent := if p.wordSeen then 0 else min 48 (p.silent + 1)
    wordSeen := false
    reading := p.reading || p.resume
    resume := false }

/-- R36: the port's frame: the delivered sample and the state after it. -/
def State.readPort (s : State) : Int × State :=
  let (x, p, slipped) := s.port.read
  let s := { s with port := p.endFrame }
  (x, if slipped then s.slip false else s)

/-- R38: a new store depth takes effect. -/
def Port.setDepth (p : Port) (depth : Nat) : Port :=
  if p.depth = depth then p
  else { p with depth := depth, store := [], slipPending := false, reading := false, resume := false }

/-! ## What a boundary hands on (R34) -/

/-- The presence that is not this one. -/
def Presence.flip : Presence → Presence
  | .present => .absent
  | .absent => .present

/-- R34: the port's presence as last handed on. -/
def Port.handed (p : Port) : Presence :=
  match p.turns with
  | [] => p.presence
  | t :: _ => t.flip

/-- R34: posts the port's turns and clears them. -/
def State.postPortTurns (s : State) : State :=
  let turns := s.port.turns
  turns.foldl (fun t p => t.postPresence 25 p) { s with port := { s.port with turns := [] } }

end Sys2Proof.Machine
end

