-- ==== Sys2Proof/Machine/Link.lean ====
section
/-! DEFINITION. The port pair (chapter 9): the chain-in monitor, reception and forwarding of lane
packets, acceptance, the outgoing lane, and the slots sent on chain-out. -/

namespace Sys2Proof.Machine

/-! ## The chain-in monitor (R164) -/

/-- R164: one period's judgement. The state changes by the events CHAIN_LOST and CHAIN_REGAINED. -/
def Link.judge (l : Link) (good : Bool) : Link :=
  { l with
    history := shiftHistory l.history good
    badCount := if good then 0 else min 24 (l.badCount + 1) }

/-- R164: TRACKING, and the consecutive-bad count stands at 24. -/
def Link.lostDue (l : Link) : Bool := l.chain == .tracking && decide (24 ≤ l.badCount)

/-- R164: LOST, at least 60 of the 64 periods are good, and none of the last 8 is bad. -/
def Link.regainDue (l : Link) : Bool :=
  l.chain == .lost && decide (60 ≤ l.history.count true) && (l.history.drop 56).all id

/-! ## Reception (R168, R169) -/

/-- What reception has come to within a frame. `taken` holds the bytes of a packet completed with a
good check; `drops` counts the packets closed short or with a bad check (R170). -/
structure Lane where
  reception : Option Reception
  forward : List Run
  taken : Option (List Byte)
  drops : Nat
  deriving DecidableEq, Repr

/-- The last run of the forward buffer takes one more byte. -/
def appendLast (b : Byte) : List Run → List Run
  | [] => [⟨[b], false⟩]
  | [r] => [{ r with bytes := r.bytes ++ [b] }]
  | r :: rs => r :: appendLast b rs

/-- No more bytes will come for the last run of the forward buffer. -/
def closeLast : List Run → List Run
  | [] => []
  | [r] => [{ r with closed := true }]
  | r :: rs => r :: closeLast rs

/-- R169: the forwarding decision from a packet's first four bytes. -/
def forwardDecision (address : BitVec 6) (bytes : List Byte) : Decision :=
  if address = 63#6 then .forward
  else if groupFlag (destOf bytes) = false ∧ addressOf (destOf bytes) = address then .strip
  else if sourceOfPacket bytes = address.setWidth 8 then .strip
  else .forward

/-- R168, R169: the packet in reception is closed short: it counts as a CRC drop, and bytes held while
the decision is PENDING enter the forward buffer as a packet of that length. -/
def Lane.closeShort (l : Lane) : Lane :=
  match l.reception with
  | none => l
  | some r =>
    { l with
      reception := none
      drops := l.drops + 1
      forward :=
        match r.decision with
        | .pending => l.forward ++ [⟨r.bytes, true⟩]
        | .forward => closeLast l.forward
        | .strip => l.forward }

/-- R168, R170: the packet in reception is complete. -/
def Lane.complete (l : Lane) (bytes : List Byte) (decision : Decision) : Lane :=
  let l := { l with
    reception := none
    forward := if decision = Decision.forward then closeLast l.forward else l.forward }
  if checkGood bytes then { l with taken := some bytes } else { l with drops := l.drops + 1 }

/-- R168: the extent that a packet's bytes give, once its length byte is among them. -/
def extentOf (bytes : List Byte) : Option Nat :=
  let i := lengthIndex (destOf bytes)
  if i < bytes.length then some (headerLength (destOf bytes) + (bytes.getD i 0).toNat + 2) else none

/-- R168: the length byte has arrived and lies above 116. -/
def tooLong (bytes : List Byte) : Bool :=
  let i := lengthIndex (destOf bytes)
  decide (i < bytes.length) && decide (116 < (bytes.getD i 0).toNat)

/-- R168, R169: one byte of the packet in reception; an orphan byte when there is none. -/
def Lane.addByte (address : BitVec 6) (l : Lane) (b : Byte) : Lane :=
  match l.reception with
  | none => l
  | some r =>
    let bytes := r.bytes ++ [b]
    let decision : Decision :=
      if r.decision = .pending ∧ 4 ≤ bytes.length then forwardDecision address bytes else r.decision
    let forward :=
      if decision = Decision.forward then
        if r.decision = .pending then l.forward ++ [⟨bytes, false⟩] else appendLast b l.forward
      else l.forward
    let l := { l with forward := forward, reception := some ⟨bytes, extentOf bytes, decision⟩ }
    if tooLong bytes then l.closeShort
    else if extentOf bytes = some bytes.length then l.complete bytes decision
    else l

/-- R168: one frame's lane acts on the reception record. A byte count of 5 to 7 is taken as a bad
frame (R193). -/
def Lane.frame (address : BitVec 6) (good : Bool) (control : Byte) (bytes : List Byte) (l : Lane) : Lane :=
  let n := laneCount control
  if good = false ∨ 4 < n then l.closeShort
  else if (bytes.take n).isEmpty then l
  else
    let l := if laneStart control then { l.closeShort with reception := some ⟨[], none, .pending⟩ } else l
    (bytes.take n).foldl (Lane.addByte address) l

/-! ## Acceptance (R170, R171) -/

/-- R170: the manner in which a complete packet is taken, if it is taken. -/
def acceptance (address : BitVec 6) (groups : BitVec 64) (bytes : List Byte) : Option Manner :=
  if sourceOfPacket bytes = address.setWidth 8 ∧ address ≠ 63#6 then none
  else if groupFlag (destOf bytes) then
    if groups.getLsbD (foldedIndex (groupTagOf bytes)) then some .group else none
  else if addressOf (destOf bytes) = 63#6 then some .broadcast
  else if addressOf (destOf bytes) = address then some .sole
  else none

/-- R168 to R170 for a frame while TRACKING: reception, forwarding and drops; and the packet taken, with
its kind. -/
def State.receiveLane (s : State) (good : Bool) (control : Byte) (bytes : List Byte) :
    State × Option (Byte × Packet) :=
  let l := s.link
  let r := Lane.frame l.address good control bytes ⟨l.reception, l.forward, none, 0⟩
  let t := { s with
    link := { l with reception := r.reception, forward := r.forward }
    status := { s.status with crcDrops := sat16 (s.status.crcDrops + r.drops) } }
  (t, r.taken.bind fun b => (acceptance l.address l.groups b).map fun m => parsePacket m b)

/-! ## The outgoing lane (R172 to R174) -/

/-- What the lane of one frame carries. -/
structure LaneOut where
  start : Bool
  bytes : List Byte
  deriving DecidableEq, Repr

/-- R173: a lane that carries nothing. -/
def LaneOut.nothing : LaneOut := ⟨false, []⟩

/-- R169, R174: the unit is listen-only. -/
def Link.listenOnly (l : Link) : Bool := l.address == 63#6

/-- R172: the fill of the forward buffer. -/
def fillOf (rs : List Run) : Nat := (rs.map fun r => r.bytes.length).sum

/-- R173: up to four bytes of the packet being forwarded leave the buffer. How many remain is known when
the frame's arrivals are in. -/
def Link.forwardBytes (l : Link) (start : Bool) : Link × LaneOut :=
  match l.forward with
  | [] => ({ l with sending := .idle, laneUse := .nothing, laneLeft := 0 }, .nothing)
  | r :: rs =>
    ({ l with
        forward := { r with bytes := r.bytes.drop 4 } :: rs
        sending := .forwarding
        laneUse := if r.bytes.isEmpty then .nothing else .forwarded
        laneLeft := 0 },
      ⟨start && !r.bytes.isEmpty, r.bytes.take 4⟩)

/-- R173: up to four bytes of a local packet are sent. -/
def Link.localBytes (l : Link) (start : Bool) (bytes : List Byte) : Link × LaneOut :=
  let rest := bytes.drop 4
  ({ l with
      sending := if rest.isEmpty then .idle else .sendingLocal rest
      laneUse := .own
      laneLeft := rest.length },
    ⟨start, bytes.take 4⟩)

/-- R173: a packet being forwarded whose bytes have all been sent, and for which no more will come, has
been sent. -/
def Link.endForward (l : Link) : Link :=
  match l.sending, l.forward with
  | .forwarding, r :: rs =>
    if r.bytes.isEmpty && r.closed then { l with forward := rs, sending := .idle } else l
  | .forwarding, [] => { l with sending := .idle }
  | .idle, _ | .sendingLocal _, _ => l

/-- R174: the bytes of a queue entry as the part sends them. -/
def Entry.wire (e : Entry) (address : BitVec 6) : List Byte :=
  packetBytes e.dest (address.setWidth 8) e.tag e.kind (encodeBody e.body)

/-- R173: a local packet may begin on the lane. -/
def Link.localMayBegin (l : Link) : Bool :=
  (fillOf l.forward == 0) &&
    (match l.reception with
      | none => true
      | some r => r.decision == .strip)

/-- R173, R174: the lane's contents of a frame, from the state at the end of the frame before. -/
def State.sendLane (s : State) : State × LaneOut :=
  let l := s.link
  let idle : State × LaneOut := ({ s with link := { l with laneUse := .nothing, laneLeft := 0 } }, .nothing)
  match l.sending with
  | .sendingLocal rest =>
    let (l', o) := l.localBytes false rest
    ({ s with link := l' }, o)
  | .forwarding =>
    let (l', o) := l.forwardBytes false
    ({ s with link := l' }, o)
  | .idle =>
    if l.chain = .tracking ∧ 0 < fillOf l.forward then
      let (l', o) := l.forwardBytes true
      ({ s with link := l' }, o)
    else
      match s.queue with
      | [] => idle
      | e :: q =>
        if l.localMayBegin then
          if l.listenOnly then ({ idle.1 with queue := q }, .nothing)
          else
            let (l', o) := l.localBytes true (e.wire l.address)
            ({ s with link := l', queue := q }, o)
        else idle

/-! ## The frame sent (R163, R165, R166) -/

/-- A slot of sample 0 with every status bit 0 (R165). -/
def Slot.silent : Slot := ⟨0, 0⟩

/-- R166: a slot the part does not write, as a passed-on frame carries it. -/
def passedSlot (good : Bool) (x : Slot) : Slot :=
  if good then x else { x with status := x.status &&& 0x7F#8 }

/-- R109: the slot a zone writes. -/
def zoneSlot (sample : Int) (valid clip : Bool) : Slot :=
  ⟨BitVec.ofInt 24 sample, BitVec.ofNat 8 ((if valid then 128 else 0) + (if clip then 64 else 0))⟩

/-- R163, R166: the slots of the frame sent: those of the zones' output slots, and `base` elsewhere. -/
def slotsOut (m : SlotMap) (feeds : List Slot) (base : Nat → Slot) : List Slot :=
  (List.range 64).map fun n =>
    match zoneIndexes.find? fun z => m.zones.getD z none == some n with
    | some z => feeds.getD z Slot.silent
    | none => base n

/-- R163: the frame as sent, with the check computed over it. -/
def sentFrame (slots : List Slot) (o : LaneOut) : SentFrame :=
  let control := laneControlOf o.start o.bytes.length
  let bytes := o.bytes ++ List.replicate (4 - o.bytes.length) 0
  { slots := slots, laneControl := control, laneBytes := bytes,
    check := crc8 (checkedBytes slots control bytes) }

/-! ## Loss and regain (R164, R165) -/

/-- R164, R165, R168: CHAIN_LOST. -/
def State.chainLost (s : State) : State :=
  if s.link.lostDue then
    let r := Lane.closeShort ⟨s.link.reception, s.link.forward, none, 0⟩
    let sending := match s.link.sending with
      | .forwarding => .idle
      | x => x
    State.postAt
      { s with
        link := { s.link with
          chain := .lost, reception := none, forward := [], sending := sending
          laneLeft := if s.link.sending = .forwarding then 0 else s.link.laneLeft }
        status := { s.status with crcDrops := sat16 (s.status.crcDrops + r.drops) } }
      .link .chainLost 0 [f2 0] s.link.stamp
  else s

/-- R164: CHAIN_REGAINED. -/
def State.chainRegained (s : State) : State :=
  if s.link.regainDue then
    State.postAt { s with link := { s.link with chain := .tracking } } .link .chainRegained 0 [f2 0]
      s.link.stamp
  else s

/-! ## Events outstanding from a frame -/

/-- R35: LOCAL_PORT_ABSENT, taken when it stands. -/
def State.portAbsent (s : State) : State := { s with port := s.port.silence }

/-- Takes the events that the last frame brought about and that their own commands have not taken. -/
def State.settleEvents (s : State) : State :=
  s.chainLost.chainRegained.portAbsent.provingLock.provingLoss.provingWindowEnd

/-- The same, with their notices sent. -/
def State.settle (s : State) : State := s.settleEvents.flushPosts

end Sys2Proof.Machine
end

