-- ==== Sys2Proof/Machine/Period.lean ====
section
/-! DEFINITION. One frame period (R163): channels and port are read, the buses formed and the lines
written (R82), the zones' reads and outputs made (R83, R109, R124), the detector stepped (R132), the
lane received and sent, and the frame composed. -/

namespace Sys2Proof.Machine

/-! ## Buses and lines (R53, R54, R82, R157) -/

/-- R53, R54: area b's bus sample of the frame, 0 where its mixer forms none, with its clip counted. -/
def State.formBus (s : State) (b : Nat) : State × Int :=
  match s.busSample (fun p => (s.channel p).concealed) b with
  | some (x, true) =>
    ({ s with status := { s.status with busClips := s.status.busClips.modify b fun n => sat16 (n + 1) } }, x)
  | some (x, false) => (s, x)
  | none => (s, 0)

/-- R82: line Lk takes the frame's sample unless it is stopped. -/
def State.feedLine (s : State) (k : Nat) (x : Int) : State :=
  if s.lineStopped k then s else s.writeLine k x

/-- R82: every line is written; `bus` is the announce bus sample. -/
def State.writeLines (s : State) (bus : Int) : State :=
  (forEach areaIndexes (fun b t => let (u, x) := t.formBus b; u.feedLine b x) s).feedLine 6 bus

/-- R83, R100: upsets break the parity of words of the memory. -/
def State.upset (s : State) (addresses : List Nat) : State :=
  { s with
    cells := addresses.foldl (fun cells a =>
      if a < memoryWords then writeCell cells a { readCell cells a with parityBad := true } else cells)
      s.cells }

/-! ## Zone reads (R83, R90, R92, R121) -/

/-- R81, R83: a read of line Lk at a tap: the sample, 0 when faulty, and whether its parity failed. No
read is made without a tap, of a stopped line or of a line of no blocks. -/
def State.readLine (s : State) (k : Nat) (tap : Option Nat) : Int × Bool :=
  match tap with
  | none => (0, false)
  | some t =>
    if s.lineStopped k || (s.line k).length == 0 then (0, false)
    else
      let w := s.lineWord k t
      if w.parityBad then (0, true) else (w.sample, false)

/-- R83, R90, R92: the read of the area path of zone z from line Lk: at the zone's tap, or the weighted
pair of two reads in a crossfade. -/
def State.pathRead (s : State) (k z : Nat) : Int × Bool :=
  match (s.inTransition z).bind fun a => s.affectedOn a z with
  | none => s.readLine k (s.zone z).tap
  | some (t, f) =>
    match t.kind with
    | .crossfade _ =>
      let (a, badA) := s.readLine k f.oldTap
      let (b, badB) := s.readLine k f.newTap
      (weightedPair a b (rampWeight t.progress t.length), badA || badB)
    | .dip _ => s.readLine k (if t.midDone then f.newTap else f.oldTap)

/-- R109, R121: the unweighted sample y1 of zone z, and the state after any line fault it finds. -/
def State.zoneRead (s : State) (bus : Int) (z : Nat) : State × Int :=
  let r := s.zone z
  match r.current with
  | .off | .quiet => (s, 0)
  | .live =>
    match s.steeringArea z with
    | none => (s, 0)
    | some k =>
      if s.pathAvailable z then
        let (x, bad) := s.pathRead k z
        (if bad then s.lineFault k else s, x)
      else (s, 0)
  | .test => (s, r.provingSample s.proving.magnitude)
  | .announce =>
    if s.allocClear.isSome || s.audioReset.isSome then (s, 0)
    else if r.bypass then (s, bus)
    else
      let (x, bad) := s.readLine 6 (some r.announceTap)
      (if bad then s.lineFault 6 else s, x)

/-! ## Zone outputs (R109, R113, R124, R125) -/

/-- R92: the dip weight of the frame for zone z. -/
def State.dipWeightOf (s : State) (z : Nat) : Nat :=
  match (s.inTransition z).bind fun a => s.affectedOn a z with
  | none => 4096
  | some (t, _) =>
    match t.kind with
    | .crossfade _ => 4096
    | .dip _ => dipRamp t.progress

/-- R124: the combined weight of a zone's frame. -/
def Zone.weight (r : Zone) : Nat :=
  let wf := fadeWeight r.progress r.length
  match r.current with
  | .live => combinedWeight wf r.dipWeight
  | .off | .quiet | .test | .announce => wf

/-- R109, R124, R125: the output sample of zone z from its y1 and the combined weight of the frame, and
whether saturation changed it. -/
def State.zoneOutput (s : State) (z : Nat) (y1 : Int) (w : Nat) : Int × Bool :=
  let r := s.zone z
  match r.current with
  | .off | .quiet => (0, false)
  | .live =>
    if s.pathAvailable z then outputStages (liveStage (s.zoneGain z) r.duck y1) w else (0, false)
  | .test | .announce => outputStages y1 w

/-- R109: the valid mark of a zone. -/
def Zone.valid (r : Zone) : Bool := r.current != .off

/-- R126: the weights of the frame are kept for READ MONITOR. -/
def Zone.noteWeights (r : Zone) : Zone :=
  { r with lastFade := fadeWeight r.progress r.length, lastDip := r.dipWeight, lastWeight := r.weight }

/-- R113, R118, R126: the fades step, the dip weights of the frame are handed over, and its weights formed. -/
def State.stepFades (s : State) : State :=
  ((s.mapZones fun z r => { r.stepFade with dipWeight := s.dipWeightOf z }).dropPaths).mapZones
    fun _ r => r.noteWeights

/-- R118: a LIVE zone whose path a read of this frame has ended stands at 0 from this frame on. -/
def State.endPaths (s : State) : State :=
  s.dropPaths.mapZones fun z r =>
    if r.current = .live ∧ s.pathAvailable z = false then { r with lastFade := 0, lastWeight := 0 } else r

/-- The reads of every zone, in zone order. -/
def State.zoneReads (s : State) (bus : Int) : State × List Int :=
  zoneIndexes.foldl (fun acc z =>
    let (t, x) := acc.1.zoneRead bus z
    (t, acc.2 ++ [x])) (s, [])

/-- R129, R130: what a frame leaves of a zone: a generator in TEST has stepped and used its insert. -/
def Zone.endFrame (r : Zone) : Zone :=
  let r := { r with lastValid := r.valid }
  if r.current = .test then { r with generator := generatorStep r.generator, insert := false } else r

/-- R109 to R125: every zone's frame: the slots written and the state after them. -/
def State.zoneFrame (s : State) (bus : Int) : State × List Slot :=
  let s := s.stepFades
  let weights := s.zones.map Zone.lastWeight
  let (s, ys) := s.zoneReads bus
  let s := s.endPaths
  let outs := zoneIndexes.map fun z => s.zoneOutput z (ys.getD z 0) (weights.getD z 0)
  let feeds := zoneIndexes.map fun z =>
    let o := outs.getD z (0, false)
    zoneSlot o.1 (s.zone z).valid o.2
  let clips := s.status.zoneClips.mapIdx fun z n => if (outs.getD z (0, false)).2 then sat16 (n + 1) else n
  (State.mapZones { s with status := { s.status with zoneClips := clips } } fun _ r => r.endFrame, feeds)

/-- R132, R136: the detector's frame. -/
def State.detect (s : State) (frame : Option ChainFrame) : State :=
  if s.standbyTaken then s
  else { s with proving := s.proving.step ((rawSample frame s.slotMap.sense).map Prod.fst) }

/-! ## The whole period (R163) -/

/-- R89, R92: the transition in flight has sent one more sample. -/
def Area.stepTransition (r : Area) : Area :=
  { r with transition := r.transition.map fun t => { t with progress := min t.length (t.progress + 1) } }

/-- R1: the frame counter's modulus. -/
def counterModulus : Nat := 4294967296

/-- R1, R163, R164: the frame has been sent: the counter advances and the period is judged. The counter steps
when the frame is over (log entry 31). -/
def Link.advance (l : Link) (good : Bool) : Link :=
  { l.judge good with
    stamp := l.counter
    counter := (l.counter + 1) % counterModulus
    inBlock := l.inBlock + 1 }

/-- R175: the bytes that remain of the forwarded packet that the frame carried: those in the buffer, and
those still to come once its extent is known. -/
def Link.noteLane (l : Link) : Link :=
  let toCome : Nat := match l.reception with
    | none => 0
    | some r => (r.extent.getD r.bytes.length) - r.bytes.length
  match l.laneUse, l.sending, l.forward with
  | .forwarded, .forwarding, r :: _ =>
    { l with laneLeft := r.bytes.length + if r.closed then 0 else toCome }
  | .forwarded, _, _ => { l with laneLeft := 0 }
  | .nothing, _, _ | .own, _, _ => l

/-- R163, R165, R166: the slot the part passes on where no zone writes. While TRACKING, a period with no
frame leaves it free but for its valid mark; `choice` is the run's choice counter. -/
def baseSlot (tracking good : Bool) (arriving : Option ChainFrame) (choice n : Nat) : Slot :=
  match tracking, arriving with
  | true, some f => passedSlot good (f.slots.getD n Slot.silent)
  | true, none => passedSlot false ⟨Config.missingSample choice n, Config.missingStatus choice n⟩
  | false, _ => Slot.silent

/-- R163: one frame period, less the packet it completes, which is given with its kind. Whether it is
timed from chain-in or locally is the chain-in state's to say. -/
def State.period (s : State) (input : FrameInput) : State × Option (Byte × Packet) :=
  let tracking := s.link.chain == .tracking
  let good := input.arriving.any ChainFrame.good
  let read := if tracking && good then input.arriving else none
  let (s, lane) := State.sendLane { s with contacts := input.contacts }
  let (port, s) := (s.readChannels read).readPort
  let bus := s.announceSample port
  let (s, feeds) := ((s.writeLines bus).upset input.upsets).zoneFrame bus
  let s := s.detect read
  let (s, taken) :=
    if tracking then
      match input.arriving with
      | some f => s.receiveLane good f.laneControl f.laneBytes
      | none => s.receiveLane false 0 []
    else (s, none)
  let out := sentFrame (slotsOut s.slotMap feeds (baseSlot tracking good input.arriving s.choices)) lane
  ({ s with
      choices := if tracking && input.arriving.isNone then s.choices + 1 else s.choices
      areas := s.areas.map Area.stepTransition
      early := []
      link := { (s.link.endForward.noteLane).advance good with chainOut := some out } }, taken)

end Sys2Proof.Machine
end

