-- ==== Sys2Proof/Machine/Image.lean ====
section
/-! DEFINITION. The stored image (R188 to R190), its checks (R189, R196), its installation, the
power-up outcome (R191) and the fallback plan (R26). -/

namespace Sys2Proof.Machine

/-! ## The copy a save takes (R188) -/

/-- R188: every item of the image as it stands. -/
def State.imageCopy (s : State) : ImageData :=
  { plans := s.areas.map Area.live
    distances := s.delay.distances
    temperature := s.delay.requested
    allocation := s.lines.map DelayLine.length
    positionSlots := s.slotMap.positions
    zoneSlots := s.slotMap.zones
    announceSlot := s.slotMap.announce
    programmes := s.programmes
    enable := s.overrideEnable
    groups := s.link.groups
    homes := s.zones.map Zone.home
    unitKey := s.unitKey }

/-! ## The checks of a load (R189) -/

/-- A value lies in a range. -/
def inRange (lo hi x : Int) : Bool := decide (lo ≤ x) && decide (x ≤ hi)

/-- The codes of the numeric items of a plan (R195). -/
def numericCodes : List Nat := (List.range 14).map fun i => i + 8

/-- R12: every value of the plan of area a lies in its range, its lists in their order. -/
def planInRange (a : Nat) (p : Plan) : Bool :=
  (p.members.all fun m => m.position < 24 && inRange (-96) 96 m.trim) &&
  decide ((p.members.map Member.position).Pairwise (· < ·)) &&
  (p.zones.all fun e => e.zone < 16 && inRange (-480) 48 e.gain) &&
  decide ((p.zones.map ZoneEntry.zone).Pairwise (· < ·)) &&
  decide (p.rest < 24) && optBelow p.ensemble 24 && optBelow p.join 6 && (p.join != some a) &&
  (numericCodes.all fun c =>
    match numericRange c with
    | some (lo, hi) => inRange lo hi (p.numeric c)
    | none => true)

/-- R140: every value of a programme lies in its range. -/
def programmeInRange (p : Programme) : Bool :=
  optBelow p.position 24 && inRange (-480) 48 p.gain && inRange 1 600 p.duration && inRange 0 600 p.tail

/-- R81: a line length. -/
def lengthInRange (n : Nat) : Bool := n == 0 || (decide (16 ≤ n) && decide (n ≤ 1024))

/-- R189 check 3: every value of every item lies in its range. -/
def imageInRange (d : ImageData) : Bool :=
  d.plans.length == 6 && ((List.range 6).all fun a => planInRange a (d.plans.getD a Plan.factory)) &&
  d.distances.length == 384 && (d.distances.all fun o => optBelow o 20001) &&
  inRange (-100) 400 d.temperature &&
  d.allocation.length == 7 && d.allocation.all lengthInRange &&
  d.positionSlots.length == 24 && (d.positionSlots.all fun o => optBelow o 64) &&
  d.zoneSlots.length == 16 && (d.zoneSlots.all fun o => optBelow o 64) && optBelow d.announceSlot 64 &&
  (ovLines.all fun l => programmeInRange (d.programmes.get l)) &&
  d.homes.length == 16 && (d.homes.all fun m => m != .announce)

/-- Two of a list's plans share something. -/
def sharedBy (plans : List Plan) (has : Plan → Nat → Bool) (n : Nat) : Bool :=
  (List.range n).any fun q => 2 ≤ (plans.filter fun p => has p q).length

/-- R189: the first check that an image memory fails, in the order of the table. -/
def imageFailure (m : ImageMemory) : Option OutcomeCode :=
  if m.mark ≠ formatMark then some .blank
  else if m.sumGood = false then some .sum
  else if imageInRange m.data = false then some .range
  else if sharedBy m.data.plans Plan.hasMember 24 then some .memberConflict
  else if sharedBy m.data.plans Plan.hasZone 16 then some .zoneConflict
  else if m.data.plans.any fun p =>
      p.join.any fun b => (m.data.plans.getD b Plan.factory).join.isSome then some .joinChain
  else if 2048 < m.data.allocation.sum then some .allocation
  else if (List.range 64).any fun n => 2 ≤ m.data.zoneSlots.count (some n) then some .slotConflict
  else none

/-! ## Waking (R8) -/

/-- R190: the areas whose live plans start awake are woken, in area order, unless the unit is in
standby; and how many. -/
def State.wakeStarters (s : State) : State × Nat :=
  if s.standby then (s, 0)
  else
    let awake := areaIndexes.filter fun a => (s.area a).live.startAwake && !s.inService a
    (forEach awake (fun a t => t.wake a) s, awake.length)

/-! ## Installation (R190) -/

/-- R26, R190: both ranks of an area receive a plan. -/
def Area.installPlan (r : Area) (p : Plan) : Area := { r with staged := p, live := p, stagedState := .clean }

/-- R190: an announce tap above the new limit of L6 is limited to it. -/
def State.limitAnnounceTaps (s : State) : State :=
  let n := (s.line 6).length
  forEach (zoneIndexes.filter fun z => (s.zone z).current == .announce) (fun z t =>
    (t.reportTap .zones z n (t.zone z).announceTap).modZone z fun r =>
      { r with announceTap := limitTap n r.announceTap }) s

/-- R80: the delay computer under an image's table and temperature. -/
def DelayComputer.install (d : DelayComputer) (distances : List (Option Nat)) (t : Int) : DelayComputer :=
  DelayComputer.markAll { d with distances := distances, requested := t, used := t }

/-- R190: the items of an image are installed by their owning blocks. -/
def State.installImage (s : State) (d : ImageData) : State :=
  let s := State.syncMixers
    { s with areas := s.areas.mapIdx fun a r => r.installPlan (d.plans.getD a Plan.factory) }
  let s := { s with delay := s.delay.install d.distances d.temperature }
  let s := s.loadMap ⟨d.positionSlots, d.zoneSlots, d.announceSlot, s.slotMap.sense⟩
  let s := s.setLengths d.allocation
  let s := forLines ovLines (fun l t => t.storeProgramme l (d.programmes.get l)) s
  let s := s.installEnable d.enable
  State.limitAnnounceTaps
    { s with
      link := { s.link with groups := d.groups }
      zones := s.zones.mapIdx fun z r => { r with home := d.homes.getD z .off }
      unitKey := d.unitKey }

/-! ## The ends of save and load -/

/-- R191 step 5: the power-up sequence ends with an outcome. -/
def State.powerUpDone (s : State) (code : OutcomeCode) : State :=
  State.post { s.setStanding with outcome := code } .engine .powerUp 0 [f2 code.code]

/-- R97: the dips that a save held back start, on every record whose phase is SETTLED. -/
def State.startWaitingDips (s : State) : State := forEach areaIndexes (fun c t => t.startWaitingDip c) s

/-- R188, R97, R19: the save ends. The takes of DORMANT areas are applied before the waiting dips are chosen (log
entry 49). -/
def State.imageSaveEnd (s : State) : State :=
  match s.save with
  | none => s
  | some v =>
    let s := State.post { s with save := none, image := ⟨formatMark, true, v.copy⟩ } .engine .imageSaved 0 [f2 0]
    s.applyDormantTakes.startWaitingDips

/-- R189, R19, R191: the first pass of the load ends. -/
def State.loadFirstPassEnd (s : State) : State :=
  match s.load with
  | none => s
  | some l =>
    match imageFailure s.image with
    | some code =>
      let s := { s with load := none }
      let s := if l.powerUp then s.powerUpDone code else s.post .engine .imageFailed 0 [f2 code.code]
      s.applyDormantTakes
    | none => { s with load := some { l with second := true, timer := ⟨200, true⟩ } }

/-- R190, R191: the second pass of the load ends. -/
def State.loadSecondPassEnd (s : State) : State :=
  match s.load with
  | none => s
  | some l =>
    let s := (State.markSettings { s with load := none }).installImage s.image.data
    let (s, woken) := s.wakeStarters
    if l.powerUp then s.powerUpDone .image else s.post .engine .imageLoaded 0 [f2 woken]

/-- R26: the fallback plan. -/
def Plan.fallback : Plan :=
  { Plan.factory with
    members := (List.range 8).map fun p => ⟨p, .speech, 0⟩
    zones := (List.range 8).map fun z => ⟨z, 0⟩ }

/-- R26, R191: the fallback plan is installed in A0, the home modes of Z0 to Z7 become LIVE, and A0 is
woken. -/
def State.installFallback (s : State) : State :=
  let s : State := { s with
    fallbackDue := false,
    areas := s.areas.modify 0 (fun r => r.installPlan Plan.fallback),
    zones := s.zones.mapIdx (fun z r => { r with home := if z < 8 then .live else r.home }) }
  (s.wake 0).powerUpDone .fallback

end Sys2Proof.Machine
end

