-- ==== Sys2Proof/Machine/Boundary.lean ====
section
/-! DEFINITION. The block boundary (R1): the per-block updates of every block in one order, the ends of
the long operations (10.2), and what an event command finds due at the coming boundary. -/

namespace Sys2Proof.Machine

/-- R1: the last frame of the block has been sent. -/
def State.atBoundary (s : State) : Bool := s.link.inBlock == 48

/-! ## Long operations (10.2) -/

/-- A timer ends at the coming boundary. -/
def Timer.last (t : Timer) : Bool := t.started && decide (t.remaining ≤ 1)

/-- A timer at a boundary that does not end it: its first boundary begins it, each later one counts. -/
def Timer.tick (t : Timer) : Timer :=
  if t.started then { t with remaining := t.remaining - 1 } else { t with started := true }

/-- R85: ALLOCATION_CLEAR_END. -/
def State.allocationClearEnd (s : State) : State :=
  State.post { s.zeroAllLines with allocClear := none } .steering .allocationDone 0
    (s.lines.map fun l => f2 l.length)

/-- R104: FLUSH_END of the line under flush. -/
def State.flushEnd (s : State) : State :=
  match s.flush with
  | none => s
  | some (k, _) => State.endFlush { s with early := .flushed k :: s.early } k

/-- R94 steps 1, 2 and 4: the decision of an area that an AUDIO reset leaves SETTLED (R106). -/
def State.decisionAfterReset (s : State) (b : Nat) : State :=
  if s.phase b = .settled then
    match s.dipChoice b with
    | some a => s.startDip b a
    | none => s.retuneCheck b
  else s

/-- R106, R180: RESET_AUDIO_END. -/
def State.resetAudioEnd (s : State) : State :=
  let s := State.post { s.zeroAllLines with audioReset := none, early := .resetEnd :: s.early }
    .engine .resetDone 0 [f2 0]
  forEach areaIndexes (fun b t => t.decisionAfterReset b) s

/-- A load's pass ends. -/
def State.loadPassEnd (s : State) : State :=
  match s.load with
  | none => s
  | some l => if l.second then s.loadSecondPassEnd else s.loadFirstPassEnd

/-- The allocation clear at a boundary. -/
def State.tickAllocation (s : State) : State :=
  match s.allocClear with
  | none => s
  | some t => if t.last then s.allocationClearEnd else { s with allocClear := some t.tick }

/-- The flush at a boundary. -/
def State.tickFlush (s : State) : State :=
  match s.flush with
  | none => s
  | some (k, t) => if t.last then s.flushEnd else { s with flush := some (k, t.tick) }

/-- The AUDIO reset at a boundary. -/
def State.tickReset (s : State) : State :=
  match s.audioReset with
  | none => s
  | some t => if t.last then s.resetAudioEnd else { s with audioReset := some t.tick }

/-- The image save at a boundary. -/
def State.tickSave (s : State) : State :=
  match s.save with
  | none => s
  | some v => if v.timer.last then s.imageSaveEnd else { s with save := some { v with timer := v.timer.tick } }

/-- The image load at a boundary. A second pass that began early at this boundary is not counted. -/
def State.tickLoad (s : State) : State :=
  match s.load with
  | none => s
  | some l =>
    if s.early.contains .loadPass then s
    else if l.timer.last then s.loadPassEnd
    else { s with load := some { l with timer := l.timer.tick } }

/-- R191: the fallback at the first block boundary. -/
def State.tickFallback (s : State) : State := if s.fallbackDue then s.installFallback else s

/-- R88, R97, R104, R106: of the long operations, the flush, the AUDIO reset and the image save that end at the
coming boundary: their ends open the way for decisions and dips. A flush that ends where a save does is done first,
and the dip of its area starts with the others (log entry 48). -/
def State.endForSteering (s : State) : State :=
  let s := if s.flush.any fun f => f.2.last then s.flushEnd else s
  let s := if s.audioReset.any Timer.last then s.resetAudioEnd else s
  if s.save.any fun v => v.timer.last then s.imageSaveEnd else s

/-- The long operations at a boundary, the flush ahead of the save (log entry 48). -/
def State.tickLong (s : State) : State :=
  s.tickAllocation.tickFlush.tickReset.tickSave.tickLoad.tickFallback

/-! ## Rest fades (R10) -/

/-- R10: the rest-fade count of area a at a boundary. -/
def State.restStep (s : State) (a : Nat) : State :=
  match (s.area a).restCount with
  | 0 => s
  | 1 => s.restFadeEnd a
  | n + 2 => s.modArea a fun r => { r with restCount := n + 1 }

/-! ## Steering (R88) -/

/-- R98: the decision after a cancelled rest fade. Its dip starts also where the flush of the line ends (log entry
48). -/
def State.restCancelDecision (s : State) (b : Nat) : State :=
  if (s.area b).decisionDue then (s.modArea b fun r => { r with decisionDue := false }).decideSettled b
  else s

/-- R87: the retune check a release owes, made at the boundary where the transition ends. One that ends within a
block leaves it to the next boundary, which finds the phase then (log entry 47). -/
def State.releaseCheck (s : State) (b : Nat) : State :=
  if (s.area b).checkDue then
    let s := s.modArea b fun r => { r with checkDue := false }
    if s.phase b = .settled then s.retuneCheck b else s
  else s

/-- R91, R104: a waiting dip starts, but not at the boundary where the flush of the line ended. -/
def State.boundaryDip (s : State) (c : Nat) : State :=
  if s.early.contains (.flushed c) then s else s.startWaitingDip c

/-- R88: a steering request that this boundary takes. -/
def State.takeDueRequest (s : State) (b : Nat) : State :=
  if (s.area b).due then s.steeringRequest b else s

/-- R88: what goes before the requests of a boundary, over every record: completions with their decisions, then
the decisions, release checks and dip starts that fall due. Midpoints come first of all (log entry 46), and a
release check goes before a dip start (log entry 36). -/
def State.steerFirst (s : State) : State :=
  let s := forEach areaIndexes (fun b t => t.dipMidpoint b) s
  let s := forEach areaIndexes (fun b t => t.transitionComplete b) s
  let s := forEach areaIndexes (fun b t => t.restCancelDecision b) s
  let s := forEach areaIndexes (fun b t => t.releaseCheck b) s
  forEach areaIndexes (fun b t => t.boundaryDip b) s

/-- R88: the steering unit at a boundary, the requests last. -/
def State.steerBoundary (s : State) : State :=
  forEach areaIndexes (fun b t => t.takeDueRequest b) s.steerFirst

/-- R96: the retune checks of a delay-table-settled event. -/
def State.settledChecks (s : State) : State :=
  forEach areaIndexes (fun b t => if t.phase b = .settled then t.retuneCheck b else t) s

/-- R74: one walk step. -/
def State.walkStep (s : State) : State := { s with delay := s.delay.walk }

/-- R74, R88, R89, R96: the walk step and the steering unit's boundary, the walk first or not where the
order can show, the settled event last. -/
def State.walkAndSteer (s : State) : State :=
  let first := s.delay.dirty.isEmpty || Config.walkFirst s.choices
  let settled := s.delay.settles
  let s := if s.delay.dirty.isEmpty then s else { s with choices := s.choices + 1 }
  let s := if first then s.walkStep.steerBoundary else s.steerBoundary.walkStep
  if settled then s.settledChecks else s

/-! ## Mixers (R43, R64) -/

/-- R64: the mixers make their updates, outside the busy blocks of an AUDIO reset and the boundary that
ends them. -/
def State.mixing (s : State) : Bool := s.audioReset.isNone && !s.early.contains .resetEnd

/-- R43, R59, R60: the mixers and the ducks at a boundary. -/
def State.mixAll (s : State) : State :=
  let s := if s.mixing then
      s.mixBoundary (fun p => (s.channel p).level) (fun p => (s.channel p).presence == .present)
    else s
  s.duckBoundary

/-! ## Zones and standby (R111, R136, R159) -/

/-- R136: the standby as taken at a boundary reaches the detector. -/
def State.takeStandby (s : State) (standby : Bool) : State :=
  let t := if standby && !s.standbyTaken then s.restartDetector else s
  { t with standbyTaken := standby }

/-- R111 to R120, R127: the zones at a boundary. They derive their wanted modes at each, and stay where an
AUDIO reset put them while it runs. -/
def State.zonesBoundary (s : State) (standby : Bool) : State :=
  if s.audioReset.isSome then forEach zoneIndexes (fun z t => t.deriveWanted standby z) s
  else forEach zoneIndexes (fun z t => t.zoneBoundary standby z) s.dropPaths

/-! ## The boundary -/

/-- The presences of the two kinds of source, as a boundary finds them or leaves them. -/
def State.sourceView (s : State) (port : Presence) : Source → Presence :=
  sourcePresence port (s.channel 24).presence

/-- R34, R142: presence and the override controller at a boundary. -/
def State.presenceAndControl (s : State) : State :=
  let old := s.sourceView s.port.handed
  let portTurns := s.port.turns.map fun p => (Source.localPort, p)
  let t := s.closeChannels.postPortTurns
  let slotTurns := if (t.channel 24).presence = (s.channel 24).presence then []
    else [(Source.slot, (t.channel 24).presence)]
  t.controllerBoundary (portTurns ++ slotTurns) old (t.sourceView t.port.presence)

/-- R159: whether the zones take the unit as in standby at a boundary whose controller's update led from
the first state to the second. Where an override's start ends a standby that they have not yet taken,
either order holds. -/
def State.zoneStandby (before after : State) : Bool :=
  if before.standby && !before.standbyTaken && !after.standby then !Config.exitFirst after.choices
  else after.standby

/-- R150: the release that falls at the boundary of a zone's switch, where the controller takes the
switch first. -/
def State.releaseAtSwitch (s : State) : State :=
  match s.withReplaced.releaseDue with
  | none => s
  | some l =>
    let t := { s with choices := s.choices + 1 }
    if Config.releaseAtSwitch s.choices then t.releaseBus l else t

/-- A mark of the present boundary still bears on an OVERRIDE_RELEASE taken right after it (R150): an override
turned ENDING at it, or settings were replaced at it. -/
def Early.bearsOnRelease : Early → Bool
  | .turned | .settings _ _ => true
  | .floor _ | .gate _ | .lead _ | .settle _ | .loadPass | .resetEnd | .flushed _ | .loaded => false

/-- R1: what the boundary leaves for the next block: posted steering requests fall due, and the other marks of
events taken early are done with. -/
def State.beginBlock (s : State) : State :=
  { s with
    areas := s.areas.map fun r => { r with due := r.posted, posted := false }
    link := { s.link with inBlock := 0 }
    early := s.early.filter Early.bearsOnRelease }

/-- R1: the block boundary. -/
def State.boundary (s : State) : State :=
  let t := s.presenceAndControl
  let standby := s.zoneStandby t
  let t := { t with choices := t.choices + 1 }
  let t := (forEach areaIndexes (fun a u => u.restStep a) t).tickLong
  let t := (t.walkAndSteer.mixAll.takeStandby standby).zonesBoundary standby
  t.releaseAtSwitch.beginBlock

/-! ## What is due at the coming boundary -/

/-- R43: what area a's mixer will find at the coming boundary, as things stand. -/
def State.mixAhead (s : State) (a : Nat) : MixResult :=
  mixSteps (s.area a).live s.levelAhead s.presentAhead s.early (s.area a).records

/-- The records of area a after step 2 of the coming update. -/
def State.levelsAhead (s : State) (a : Nat) : List MemberRec :=
  (s.area a).records.map fun r => r.levelStep (s.area a).live.releaseRate (s.levelAhead r.position)
    (s.presentAhead r.position) (s.early.contains (.floor r.position))
    (s.early.contains (.gate r.position))

/-- The record that area a's mixer keeps for a position. -/
def Area.record (r : Area) (p : Nat) : Option MemberRec := r.records.find? fun m => m.position == p

/-- R46: the floor of position p in area a's mixer rises at the coming boundary. -/
def State.floorDue (s : State) (a p : Nat) : Bool :=
  s.atBoundary && s.mixing && s.running a && s.presentAhead p &&
    !s.early.contains (.floor p) && !s.early.contains (.gate p) &&
    match (s.area a).record p with
    | none => false
    | some r =>
      r.kind == .speech && r.gate == .closed && decide (250 ≤ r.rise + 1) &&
        decide (r.f ≤ smooth (s.area a).live.releaseRate (s.levelAhead p) r.s)

/-- R48: the gate of position p in area a's mixer closes at the coming boundary. -/
def State.gateDue (s : State) (a p : Nat) : Bool :=
  s.atBoundary && s.mixing && s.running a && s.presentAhead p && !s.early.contains (.gate p) &&
    let ahead := s.levelsAhead a
    match ahead.find? fun r => r.position == p with
    | none => false
    | some r =>
      r.kind == .speech && r.gate == .hold && decide (r.hold ≤ 1) &&
        !r.opens (s.area a).live.openMargin (s.area a).live.window (speechTopOf s.presentAhead ahead)

/-- R55: the level of area a's lead at the coming boundary. -/
def State.leadLevelAhead (s : State) (a : Nat) : Int :=
  leadLevelOf s.presentAhead (s.mixAhead a).records (s.mixAhead a).ensembleLevel (s.area a).lead

/-- R57: the lead that area a's mixer will elect at the coming boundary. -/
def State.leadDue (s : State) (a : Nat) : Option Lead :=
  if s.atBoundary && s.mixing && s.running a && !s.early.contains (.lead a) then
    let r := s.area a
    let m := s.mixAhead a
    let top := topOf (candidates r.live s.presentAhead m.records m.ensembleLevel)
    reachesHold r.live.leadHold
      (nextChallenger r.lead (s.leadLevelAhead a) r.live.leadMargin top r.challenger)
  else none

/-- Changes area a's record of position p. -/
def Area.modRecord (r : Area) (p : Nat) (f : MemberRec → MemberRec) : Area :=
  { r with records := r.records.map fun m => if m.position = p then f m else m }

end Sys2Proof.Machine
end

