-- ==== Sys2Proof/Machine/Taking.lean ====
section
/-! DEFINITION. What every command shares: the taking of a request (R177, R178, R179), the events that
their own commands take, and power. -/

namespace Sys2Proof.Machine

/-! ## Commands and power -/

/-- A command that the powered part carries out: events left from the last frame come first, the notices
posted last. Without supply nothing happens. -/
def State.powerOn (s : State) (act : State → State) : State :=
  if s.powered then (act s.settle).flushPosts else s

/-- An event of a frame, taken by its own command. -/
def State.frameEvent (s : State) (act : State → State) : State :=
  if s.powered then (act s).flushPosts else s

/-- An event of a block boundary, taken by its own command ahead of the rest of the boundary; a command
whose event is not due changes nothing. -/
def State.boundaryEvent (s : State) (due : State → Bool) (act : State → State) : State :=
  if s.powered && due s.settle then (act s.settle).flushPosts else s

/-! ## Taking a request (R177) -/

/-- What a request's owning block decides: the state after it, the result code and the reply's values. -/
abbrev Verdict := State × ResultCode × List Field

/-- A verdict that changes nothing. -/
def State.refuse (s : State) (code : ResultCode) (body : List Field) : Verdict := (s, code, body)

/-- R179: a range refusal; its place is 0 where the request has no items (R194). -/
def State.refuseRange (s : State) (place : Nat) : Verdict := (s, .refusedRange, [f1 place])

/-- R177 step 2: the request is dropped. -/
def State.dropRequest (s : State) : State :=
  { s with status := { s.status with
      requestsDropped := sat16 (s.status.requestsDropped + 1)
      outQueueFull := true } }

/-- R178: the key does not match. -/
def State.keyRefused (s : State) (kind : Nat) (p : Packet) : State :=
  let s := { s with status := { s.status with keyFaults := sat16 (s.status.keyFaults + 1) } }
  (s.post .engine .keyFault p.source.toNat [f2 kind]).reply kind p .refusedKey []

/-- R178: a key of 0 accepts any key field, another only its equal. -/
def keyAccepts (key field : Key) : Bool := key == 0 || key == field

/-- R178: requests checked against no key. -/
def State.noKey (_s : State) (_p : Packet) : Key := 0

/-- R178: requests checked against the unit key. -/
def State.byUnitKey (s : State) (_p : Packet) : Key := s.unitKey

/-- R178, R22: requests checked against the live key of the area they name; a name that is no area's
passes. -/
def State.byAreaKey (s : State) (p : Packet) : Key :=
  if byteAt p.body 0 < 6 then (s.area (byteAt p.body 0)).live.areaKey else 0

/-- R177: a sole request finds the outgoing queue full. -/
def State.mustDrop (s : State) (p : Packet) : Bool :=
  p.manner == .sole && decide (queueCapacity ≤ s.queue.length)

/-- R177: the taking of a request of a kind the part knows. `monitor` marks the kinds answered during an
engine-wide busy period (R180). -/
def State.request (s : State) (kind : Nat) (p : Packet) (lengthOk : List Byte → Bool)
    (key : State → Packet → Key) (monitor : Bool) (act : State → Packet → Verdict) : State :=
  if s.mustDrop p then s.dropRequest
  else if lengthOk p.body = false then s.reply kind p .malformed []
  else if s.engineBusy && !monitor then s.reply kind p .busy []
  else if keyAccepts (key s p) p.key = false then s.keyRefused kind p
  else
    let v := act s p
    v.1.reply kind p v.2.1 v.2.2

/-- The taking of READ DISTANCES or READ PROVING. While the power-up sequence alone keeps the engine busy, R68
and R138 have it carried out and R180 has it answered BUSY: either holds (log entry 35). -/
def State.requestRead (s : State) (kind : Nat) (p : Packet) (lengthOk : List Byte → Bool)
    (act : State → Packet → Verdict) : State :=
  if s.loadAloneBusy then
    State.request { s with choices := s.choices + 1 } kind p lengthOk State.noKey
      (Config.readsDuringPowerUp s.choices) act
  else s.request kind p lengthOk State.noKey false act

/-- R194: a body of exactly n bytes. -/
def exactly (n : Nat) (body : List Byte) : Bool := body.length == n

/-- R194: a body of `first` bytes and then 1 to `most` items of n bytes. -/
def itemsAfter (first n most : Nat) (body : List Byte) : Bool :=
  decide (first ≤ body.length) && (body.length - first) % n == 0 &&
    decide (1 ≤ (body.length - first) / n) && decide ((body.length - first) / n ≤ most)

/-- R177 steps 2 and 3, R194: a kind that is no request kind of this part. -/
def State.unknownKind (s : State) (kind : Byte) (p : Packet) : State :=
  if s.mustDrop p then s.dropRequest else s.reply kind.toNat p .unknownKind []

end Sys2Proof.Machine
end

