-- ==== Sys2Proof/Machine/Monitor.lean ====
section
/-! DEFINITION. The replies of READ STATUS (R182, R197), READ MONITOR (R39, R63, R105, R126, R161, R175,
R183), READ PLAN (R16), READ DISTANCES (R68) and READ PROVING (R138): the values, in the order of the
rules' tables. -/

namespace Sys2Proof.Machine

/-- A tap of two bytes, 65,535 for none. -/
def ftap (o : Option Nat) : Field := f2 ((o.getD 65535 : Nat) : Int)

/-- An absent code. -/
def absent1 : Field := f1 255

/-! ## READ STATUS -/

/-- R197: the unit flags. -/
def Status.unitFlags (r : Status) : Nat :=
  bitsOf [r.keyFault, r.slipOver, r.slipUnder, r.chain, r.proving, r.outQueueFull, r.evac]

/-- R197 part 0. -/
def State.statusPart0 (s : State) : List Field :=
  let r := s.status
  [f1 r.unitFlags, f2 r.tapClamped.toNat, ⟨4, r.presence.toNat⟩, ⟨4, r.clip.toNat⟩,
    f1 r.takeFailed.toNat, f1 r.lead.toNat, f1 r.takeApplied.toNat, f1 r.retune.toNat,
    f1 r.override.toNat, f1 (bitsOf (s.lines.map DelayLine.faulted)), f2 r.crcDrops,
    f2 r.requestsDropped, f2 r.noticesDropped, f2 r.keyFaults, f2 r.slipsOver, f2 r.slipsUnder] ++
  (r.busClips.map fun n => f2 n) ++ [f1 s.queue.length, f1 s.sequence.toNat]

/-- R197 part 1. -/
def State.statusPart1 (s : State) : List Field :=
  (s.status.clips.map fun n => f2 n) ++ s.status.zoneClips.map fun n => f2 n

/-- R182, R197: READ STATUS. -/
def State.readStatus (s : State) (p : Packet) : Verdict :=
  match byteAt p.body 0 with
  | 0 => (s, .done, s.statusPart0)
  | 1 => (s, .done, s.statusPart1)
  | _ => s.refuseRange 0

/-! ## READ MONITOR -/

/-- R39: a position channel. -/
def State.monitorPosition (s : State) (c : Nat) : List Field :=
  let r := s.channel c
  [fo (s.slotMap.entry c), f1 r.presence.code, f1 (r.history.count true), f1 r.run, f2 r.level,
    fb (s.status.clip.getLsbD c), f2 (s.status.clips.getD c 0 : Nat)]

/-- R39: the announce channel. -/
def State.monitorAnnounce (s : State) : List Field :=
  let r := s.channel 24
  [fo s.slotMap.announce, f1 r.presence.code, f1 (r.history.count true), f1 r.run,
    fb (s.status.clip.getLsbD 24), f2 (s.status.clips.getD 24 0 : Nat)]

/-- R39: the local port. -/
def State.monitorPort (s : State) : List Field :=
  let p := s.port
  [f1 p.depth, f1 p.presence.code, f1 p.silent, f1 p.store.length, f2 s.status.slipsOver,
    f2 s.status.slipsUnder, fb s.status.slipOver, fb s.status.slipUnder]

/-- R63: one member record. -/
def State.monitorMember (s : State) (r : MemberRec) : List Field :=
  [f1 r.position, f1 r.kind.code, f1 (s.channel r.position).presence.code, f2 r.s, f2 r.f, f1 r.rise,
    f1 r.gate.code, f2 r.hold, f2 r.t, f2 r.g]

/-- R105: what a held take of area a waits for, in the order of the rule's list: a transition on its own
record 0, on its target's record 1, an image save 2, a rest fade 3, a fault 4, nothing 5. Where several hold at once
it is the first of the list (log entry 58). -/
def State.waitsFor (s : State) (a : Nat) : Nat :=
  let c := s.steeredBy a
  if s.holdsTake a = false then 5
  else if (s.area a).transition.isSome then 0
  else if (s.area c).transition.isSome then 1
  else if s.save.isSome then 2
  else if 0 < (s.area a).restCount ∨ 0 < (s.area c).restCount then 3
  else if s.lineDown c then 4
  else 5

/-- R86: the progress of a transition, from 0 to M − 1. -/
def Transition.k (t : Transition) : Nat := min t.progress (t.length - 1)

/-- R105: the steering part of an area's reply. With no transition M, k and the number of affected zones are 0 (log
entry 11). -/
def State.monitorSteering (s : State) (a : Nat) : List Field :=
  let r := s.area a
  f1 (s.phase a).code ::
    (match r.transition with
      | none => [absent1, absent1, f2 0, f2 0, f1 0]
      | some t => [f1 t.kind.code, f1 t.kind.reasonCode, f2 t.length, f2 t.k, f1 t.zones.length]) ++
    [if r.pendingRequest then f1 0 else absent1, fb (s.holdsTake a), f1 (s.waitsFor a),
      fb (s.status.retune.getLsbD a)]

/-- R63: the area, mix and lead parts of an area's reply, and the number of its member records. -/
def State.monitorAreaHead (s : State) (a : Nat) : List Field :=
  let r := s.area a
  [f1 r.service.code, f1 r.restCount, fo r.live.join, fb (s.running a), f1 r.nom, f2 (attenuation r.nom),
    f2 r.speechTop, f2 r.ensembleLevel, f2 (s.status.busClips.getD a 0 : Nat), f1 r.lead.position,
    f1 r.lead.source.code, f2 r.leadLevel] ++
  (match r.challenger with
    | none => [absent1, absent1, f2 0]
    | some c => [f1 c.lead.position, f1 c.lead.source.code, f2 c.count]) ++
  [f1 r.records.length]

/-- R63, R105: an area. -/
def State.monitorArea (s : State) (a : Nat) : List Field :=
  s.monitorAreaHead a ++ (s.area a).records.flatMap s.monitorMember ++ s.monitorSteering a

/-- R105: the transition part of a zone's reply. Before its first sample a crossfade shows weight 0 (log entry
38), and with no transition k, M and the weight are 0 (log entry 11). -/
def State.monitorZoneSteering (s : State) (z : Nat) : List Field :=
  [fo (s.steeringArea z), ftap (if (s.zoneArea z).isSome then (s.zone z).tap else none)] ++
  match s.inTransition z with
  | none => [absent1, absent1, ftap none, ftap none, f2 0, f2 0, f2 0]
  | some a =>
    match s.affectedOn a z with
    | none => [absent1, absent1, ftap none, ftap none, f2 0, f2 0, f2 0]
    | some (t, f) =>
      let w : Nat := match t.kind with
        | .crossfade _ => if t.progress = 0 then 0 else rampWeight (t.progress - 1) t.length
        | .dip _ => (s.zone z).lastDip
      [f1 a, f1 t.kind.code, ftap f.oldTap, ftap f.newTap, f2 t.k, f2 t.length, f2 w]

/-- R126: a zone. -/
def State.monitorZone (s : State) (z : Nat) : List Field :=
  let r := s.zone z
  [f1 r.home.code, f1 r.current.code, f1 r.wanted.code, f1 r.wantedRow, f1 r.phase.code,
    fo (r.next.map Mode.code), f1 r.settleKind.code, f1 r.settleCount, fb r.short, f2 r.length,
    f2 r.progress, f2 r.lastFade, f2 r.lastDip, f2 r.lastWeight, fo (s.zoneArea z),
    f2 (s.zoneGain z), f2 r.duckTarget, f2 r.duck, fb (s.pathAvailable z), fb (s.sounding z),
    f1 (ovOptCode r.entered), f2 r.announceTap, fb r.bypass, fo (s.slotMap.zones.getD z none),
    fb r.lastValid, f2 (s.status.zoneClips.getD z 0 : Nat), fb (s.status.tapClamped.getLsbD z)] ++
  s.monitorZoneSteering z

/-- R105: one line. -/
def State.monitorLine (s : State) (k : Nat) : List Field :=
  let remaining := match s.flush with
    | some (j, t) => if j = k then t.remaining else 0
    | none => 0
  [f2 (s.line k).length, f2 (s.firstBlock k), fb (s.line k).faulted, fb (s.flushing k), f1 remaining]

/-- The blocks a long operation still has. -/
def remainingOf (t : Option Timer) : Nat := (t.map Timer.remaining).getD 0

/-- R105: LINES. The bypass mark is the fault flag of L6 (log entry 37). -/
def State.monitorLines (s : State) : List Field :=
  (List.range 7).flatMap s.monitorLine ++
    [fb (s.line 6).faulted, fb s.allocClear.isSome, f1 (remainingOf s.allocClear)]

/-- R146: a countdown as a kind, none 0, STOPPED 1 and RUNNING 2, and its value. -/
def Countdown.fields : Countdown → List Field
  | .none => [f1 0, f2 0]
  | .stopped => [f1 1, f2 0]
  | .running v => [f1 2, f2 v]

/-- R140: a programme of an O line, every field. -/
def Programme.fields (p : Programme) : List Field :=
  [f1 p.trigger.code, f1 p.source.code, f2 p.targets.toNat, fo p.position, f2 p.gain, f2 p.duration,
    f1 p.countStart.code, f2 p.tail]

/-- R140: the fields of EVAC's programme. -/
def Programme.evacFields (p : Programme) : List Field := [f1 p.source.code, fo p.position, f2 p.gain]

/-- The fields of the programme of a line. -/
def Programme.fieldsFor (p : Programme) (l : OvLine) : List Field :=
  if l = .evac then p.evacFields else p.fields

/-- R161: one line. EVAC's part has no duration or tail in force, of which R146 gives it none (log entry 11). -/
def State.monitorOverride (s : State) (l : OvLine) : List Field :=
  let r := s.ov l
  let inForce := match r.trigger with
    | .edge => r.durationInForce
    | .level => r.tailInForce
  if l = .evac then [fb r.sample, f1 r.state.code] ++ r.countdown.fields
  else [fb r.sample, f1 r.state.code, fb r.latch, fb r.suppressed] ++ r.countdown.fields ++ [f2 inForce]

/-- R161: OVERRIDES. With no holder there are no bytes of a running copy, and EVAC's are those of its programme;
the override enable is a mark, 1 for SET (log entry 11). -/
def State.monitorOverrides (s : State) : List Field :=
  let holderState := match s.holder with
    | none => absent1
    | some l => f1 (s.ov l).state.code
  [fb s.standby, fb s.overrideEnable, fb (s.ov .evac).latch, f1 (ovOptCode s.holder), holderState] ++
    ovLines.flatMap s.monitorOverride ++
    (ovLines.flatMap fun l => (s.ov l).programme.fieldsFor l) ++
    match s.holder, s.holderCopy with
    | some l, some p => p.fieldsFor l
    | _, _ => []

/-- R175: LINK. -/
def State.monitorLink (s : State) : List Field :=
  let l := s.link
  [f1 l.chain.code, f1 l.chain.code, f1 l.badCount, f1 (l.history.count true), fb s.status.chain,
    f1 l.address.toNat, fb l.listenOnly, ⟨4, l.counter⟩] ++
  (match l.reception with
    | none => [absent1, absent1, absent1]
    | some r => [f1 r.bytes.length, fo r.extent, f1 r.decision.code]) ++
  [f2 (fillOf l.forward), f1 l.forward.length, f1 l.laneUse.code, f2 l.laneLeft, ⟨8, l.groups.toNat⟩]

/-- R183: UNIT. The queue is as the request finds it, without this reply (log entry 54). A load's pass is 1 or 2, 0
for no load (log entry 11), and its remaining blocks are those of that pass (log entry 57). -/
def State.monitorUnit (s : State) : List Field :=
  [f1 s.link.address.toNat, fb s.fallbackStrap, f1 s.outcome.code, fb (s.unitKey == 0),
    fb s.audioReset.isSome, f1 (remainingOf s.audioReset), fb s.allocClear.isSome,
    f1 (remainingOf s.allocClear), fo (s.flush.map Prod.fst), f1 (remainingOf (s.flush.map Prod.snd)),
    fb s.save.isSome, f2 (remainingOf (s.save.map Save.timer)),
    f1 (match s.load with
      | none => 0
      | some l => if l.second then 2 else 1),
    f2 (remainingOf (s.load.map Load.timer)), f1 s.queue.length] ++
  (s.queue.map fun e => f1 e.kind.toNat) ++
  [f1 s.sequence.toNat, ⟨4, s.kindMask.toNat⟩, f1 s.suppress.toNat, f1 s.reporting.toNat]

/-- R183, R194: the values a subject's reply carries, none for a subject that is not listed. -/
def State.monitorValues (s : State) (subject : Nat) : Option (List Field) :=
  if subject < 24 then some (s.monitorPosition subject)
  else if subject = 24 then some s.monitorAnnounce
  else if subject = 25 then some s.monitorPort
  else if 32 ≤ subject ∧ subject < 38 then some (s.monitorArea (subject - 32))
  else if 48 ≤ subject ∧ subject < 64 then some (s.monitorZone (subject - 48))
  else if subject = 64 then some s.monitorLines
  else if subject = 65 then some s.monitorOverrides
  else if subject = 66 then some s.monitorLink
  else if subject = 67 then some s.monitorUnit
  else none

/-- R192: the bytes of a body after its result code, at most. -/
def bodyRoom : Nat := 115

/-- The values of a reply that stand at its head in every case: those of an area ahead of its records, whose
number has no bound that R192's body allows. -/
def State.monitorHead (s : State) (subject : Nat) : List Field :=
  if 32 ≤ subject ∧ subject < 38 then s.monitorAreaHead (subject - 32) else []

/-- The bytes of a list of values. -/
def bytesOf (fs : List Field) : Nat := (fs.map Field.bytes).sum

/-- R183: READ MONITOR. Where the values need more than R192's body has room for, those at the head are sent
and what follows them is free (log entry 12). -/
def State.readMonitor (s : State) (p : Packet) : Verdict :=
  match s.monitorValues (byteAt p.body 0) with
  | none => s.refuseRange 0
  | some fs =>
    if bytesOf fs ≤ bodyRoom then (s, .done, fs)
    else
      let head := s.monitorHead (byteAt p.body 0)
      ({ s with choices := s.choices + 1 }, .done, head ++
        ((Config.oversizeBody s.choices).take (bodyRoom - bytesOf head)).map fun b => f1 b.toNat)

/-! ## READ PLAN, READ DISTANCES, READ PROVING -/

/-- R16: the selected part of a plan: MEMBERS, ZONES or PARAMETERS, in the order of R12. -/
def Plan.part (p : Plan) : Nat → List Field
  | 0 => f1 p.members.length :: p.members.flatMap fun m => [f1 m.position, f1 m.kind.code, ⟨1, m.trim⟩]
  | 1 => f1 p.zones.length :: p.zones.flatMap fun e => [f1 e.zone, f2 e.gain]
  | _ => [f2 p.areaKey.toNat, f1 p.rest, fo p.ensemble, f2 p.ensembleThreshold, f2 p.openMargin,
      f2 p.window, f2 p.gateHold, f2 p.offAttenuation, f2 p.releaseRate, f2 p.leadMargin, f2 p.leadHold,
      f2 p.crossfade, f2 p.precedence, f2 p.retune, f2 p.guard, f2 p.duck, f2 p.areaGain, fo p.join,
      fb p.startAwake]

/-- R16: READ PLAN. -/
def State.readPlan (s : State) (p : Packet) : Verdict :=
  let a := byteAt p.body 0
  let rank := byteAt p.body 1
  let part := byteAt p.body 2
  if a < 6 ∧ rank < 2 ∧ part < 3 then
    let r := s.area a
    (s, .done, [f1 r.service.code, f1 r.restCount, f1 r.stagedState.code] ++
      (if rank = 0 then r.staged else r.live).part part)
  else s.refuseRange 0

/-- R68: READ DISTANCES. -/
def State.readDistances (s : State) (p : Packet) : Verdict :=
  let q := byteAt p.body 0
  if q < 24 then
    let d := s.delay
    (s, .done, [f2 d.requested, f2 d.used, f2 d.speed, f2 d.dirty.length, f2 d.pointer] ++
      zoneIndexes.flatMap fun z =>
        [f2 ((d.distances.getD (pairIndex q z) none).getD 65535 : Nat), f2 (s.storedDelay q z : Nat),
          fb (d.dirty.contains (pairIndex q z))])
  else s.refuseRange 0

/-- R138: READ PROVING. The marks of the zones are two sets, in TEST and insert stored (log entry 11). -/
def State.readProving (s : State) (_p : Packet) : Verdict :=
  let r := s.proving
  (s, .done, [f1 r.state.code, fo (r.assignment.map Prod.fst), fo (r.assignment.map Prod.snd), f2 r.errors,
    f2 r.level, f1 r.shadow.length, f1 r.confirmed, f1 r.progress, f1 r.mismatches,
    f2 (bitsOf (s.zones.map fun z => z.current == .test)), f2 (bitsOf (s.zones.map Zone.insert))])

end Sys2Proof.Machine
end

