-- ==== Sys2Proof/Machine/Requests.lean ====
section
/-! DEFINITION. What the owning blocks decide of each request that writes or starts something
(chapters 1 to 10), as step 7 of R177 hands it to them. -/

namespace Sys2Proof.Machine

/-- DONE, or CLAMPED where a numeric value was clamped (R179). -/
def doneOr (clamped : Bool) : ResultCode := if clamped then .clamped else .done

/-! ## Status and notices (R182, R185) -/

/-- R182: CLEAR STATUS. -/
def State.clearStatus (s : State) (_p : Packet) : Verdict :=
  ({ s with status := s.status.cleared }, .done, [])

/-- R185: the kind marks that can be stored. -/
def storableKinds : BitVec 25 := ~~~(BitVec.twoPow 25 16 ||| BitVec.twoPow 25 17)

/-- R185: SET NOTICE MASK. -/
def State.setNoticeMask (s : State) (p : Packet) : Verdict :=
  let kinds := wordAt p.body 0 * 65536 + wordAt p.body 2
  let cats := byteAt p.body 4
  let addr := byteAt p.body 5
  if kinds < 2 ^ 25 ∧ cats < 64 ∧ addr < 64 then
    let mask := BitVec.ofNat 25 kinds
    let t := { s with
      kindMask := mask &&& storableKinds
      suppress := BitVec.ofNat 6 cats &&& 0x1F#6
      reporting := BitVec.ofNat 6 addr
      status := s.status.clearMasked mask }
    (t, .done, [⟨4, t.kindMask.toNat⟩, f1 t.suppress.toNat, f1 t.reporting.toNat])
  else s.refuseRange 0

/-! ## Plans and service (R8, R9, R15, R17, R18) -/

/-- R15: WRITE PLAN. -/
def State.writePlan (s : State) (p : Packet) : Verdict :=
  let a := byteAt p.body 0
  let items := itemsOf 4 (p.body.drop 1)
  if a < 6 then
    if s.holdsTake a then s.refuse .refusedPending []
    else
      match firstBad (itemOk a) items with
      | some place => s.refuseRange place
      | none =>
        let r := applyItems (s.area a).staged items
        (s.modArea a fun x => { x with staged := r.1, stagedState := .edited }, doneOr r.2, [])
  else s.refuseRange 0

/-- R18: TAKE. -/
def State.takePlan (s : State) (p : Packet) : Verdict :=
  let a := byteAt p.body 0
  if a < 6 then
    if s.holdsTake a then s.refuse .refusedPending []
    else if s.inService a || s.imageBusy then
      (s.modArea a fun r => { r with stagedState := .held }, .held, [])
    else
      match s.validate a (s.area a).staged with
      | some (reason, subject) => s.refuse .refusedConflict [f1 reason.code, f1 subject]
      | none => (s.applyPlan a, .done, [])
  else s.refuseRange 0

/-- R17: DISCARD. -/
def State.discardPlan (s : State) (p : Packet) : Verdict :=
  let a := byteAt p.body 0
  if a < 6 then
    ((s.withdrawTake a).modArea a fun r => { r with staged := r.live, stagedState := .clean }, .done, [])
  else s.refuseRange 0

/-- R8: WAKE AREA. -/
def State.wakeArea (s : State) (p : Packet) : Verdict :=
  let a := byteAt p.body 0
  if a < 6 then
    if s.inService a then
      (if 0 < (s.area a).restCount then s.cancelRest a else s, .done, [])
    else if s.load.isSome then s.refuse .busy []
    else if s.standby then s.refuse .refusedState []
    else (s.wake a, .done, [])
  else s.refuseRange 0

/-- R119: zone z begins a rest fade when area a is told to rest, one that already fades to silence by the
rest of another area, or by a rest just cancelled, included. -/
def State.restsWith (s : State) (a z : Nat) (r : Zone) : Bool :=
  r.current == .live && r.wanted == .live && !r.changing && decide (0 < r.progress) &&
    (s.zoneArea z == some a || s.steeringArea z == some a)

/-- R9, R98, R119: the rest fade of area a begins, on the zones that sound when the request is taken. -/
def State.beginRest (s : State) (a : Nat) : State :=
  let t := (s.abandonForRest a).modArea a fun r => { r with restCount := 32 }
  t.mapZones fun z r => if s.restsWith a z (s.zone z) then r.beginRestFade (restLength s.link.inBlock) else r

/-- R9: REST AREA. -/
def State.restArea (s : State) (p : Packet) : Verdict :=
  let a := byteAt p.body 0
  if a < 6 then
    (if s.inService a && (s.area a).restCount == 0 then s.beginRest a else s, .done, [])
  else s.refuseRange 0

/-! ## Geometry (R67, R69) -/

/-- R67, R193: a distance entry, none for absent, clamped to 20,000. -/
def distanceOf (w : Nat) : Option Nat := if w = 65535 then none else some (min 20000 w)

/-- R67: the distance of an entry is clamped. -/
def distanceClamped (w : Nat) : Bool := decide (20000 < w) && w != 65535

/-- R67: one entry is written and its pair marked dirty. -/
def DelayComputer.writeEntry (d : DelayComputer) (e : List Byte) : DelayComputer :=
  let i := pairIndex (byteAt e 0) (byteAt e 1)
  DelayComputer.mark { d with distances := d.distances.set i (distanceOf (wordAt e 2)) } i

/-- R67: WRITE DISTANCES. -/
def State.writeDistances (s : State) (p : Packet) : Verdict :=
  let entries := itemsOf 4 p.body
  if s.imageBusy then s.refuse .busy []
  else
    match firstBad (fun e => decide (byteAt e 0 < 24) && decide (byteAt e 1 < 16)) entries with
    | some place => s.refuseRange place
    | none =>
      ({ s with delay := entries.foldl DelayComputer.writeEntry s.delay },
        doneOr (entries.any fun e => distanceClamped (wordAt e 2)), [])

/-- R69: SET AIR TEMPERATURE. -/
def State.setAirTemperature (s : State) (p : Packet) : Verdict :=
  let raw := intAt p.body 0
  let v := clampInt (-100) 400 raw
  let t := { s with delay := s.delay.setTemperature v }
  (t, doneOr (v != raw), [f2 t.delay.requested, f2 t.delay.used])

/-! ## Lines (R84, R103) -/

/-- R84 step 3: a length as stored. -/
def allocationLength (n : Nat) : Nat := if n = 0 then 0 else max 16 (min 1024 n)

/-- R84: SET ALLOCATION. -/
def State.setAllocation (s : State) (p : Packet) : Verdict :=
  if s.imageBusy || s.flush.isSome || s.allocClear.isSome then s.refuse .busy []
  else if s.anyInService || s.overrideInUse || (s.ov .evac).latch then s.refuse .refusedState []
  else
    let lengths := (List.range 7).map fun k => allocationLength (wordAt p.body (2 * k))
    if 2048 < lengths.sum then s.refuse .refusedRange [f2 lengths.sum]
    else
      ({ s.setLengths lengths with allocClear := some ⟨32, false⟩ }, .started, lengths.map fun n => f2 n)

/-- R103: FLUSH LINE. -/
def State.flushLine (s : State) (p : Packet) : Verdict :=
  let k := byteAt p.body 0
  if 7 ≤ k then s.refuseRange 0
  else if s.flush.isSome || s.allocClear.isSome || s.audioReset.isSome then s.refuse .busy []
  else if (s.line k).faulted = false then s.refuse .refusedState []
  else ({ s with flush := some (k, ⟨flushBlocks (s.line k).length, false⟩) }, .started, [])

/-! ## Zones and proving (R112, R130, R131, R138) -/

/-- R112: SET ZONE MODE. -/
def State.setZoneMode (s : State) (p : Packet) : Verdict :=
  let set := BitVec.ofNat 16 (wordAt p.body 0)
  match homeModeOf (byteAt p.body 2) with
  | none => s.refuseRange 0
  | some m =>
    if set = 0 then s.refuseRange 0
    else
      let t := s.mapZones fun z r => { r with home := if set.getLsbD z then m else r.home }
      (t, .done, t.zones.map fun r => f1 r.home.code)

/-- R131 steps 3 to 5: the assignment carried. PROVING_LOST names the zone that was assigned (log entry 44),
and an IDLE detector shows an empty shadow (log entry 51). -/
def State.assignDetector (s : State) (a : Option (Nat × Nat)) : State :=
  match a with
  | none =>
    let s := s.postLost s.link.counter
    { s with
      slotMap := { s.slotMap with sense := none }
      proving := { s.proving.search with state := .idle, assignment := none } }
  | some (z, n) =>
    if s.proving.assignment = some (z, n) then s
    else
      let s := s.postLost s.link.counter
      { s with
        slotMap := { s.slotMap with sense := some n }
        proving := { s.proving.search with assignment := some (z, n) } }

/-- R131: SET PROVING. -/
def State.setProving (s : State) (p : Packet) : Verdict :=
  let zone := optOf (byteAt p.body 0)
  let slot := optOf (byteAt p.body 1)
  if optBelow zone 16 && optBelow slot 64 && zone.isSome == slot.isSome then
    let raw := intAt p.body 2
    let level := clampInt (-240) 0 raw
    let t := State.assignDetector { s with proving := { s.proving with level := level } }
      (match zone, slot with
        | some z, some n => some (z, n)
        | _, _ => none)
    (t, doneOr (level != raw),
      [fo (t.proving.assignment.map Prod.fst), fo (t.proving.assignment.map Prod.snd), f2 t.proving.level,
        f1 t.proving.state.code])
  else s.refuseRange 0

/-- R130: INSERT PROVING ERROR. -/
def State.insertProvingError (s : State) (p : Packet) : Verdict :=
  let z := byteAt p.body 0
  if 16 ≤ z then s.refuseRange 0
  else if (s.zone z).current ≠ .test ∨ (s.zone z).phase ≠ .steady then s.refuse .refusedState []
  else (s.modZone z fun r => { r with insert := true }, .done, [])

/-- R138: CLEAR PROVING COUNT. -/
def State.clearProvingCount (s : State) (_p : Packet) : Verdict :=
  ({ s with proving := { s.proving with errors := 0 } }, .done, [])

/-! ## Overrides and standby (R141, R144, R154 to R156, R159, R160) -/

/-- R141 step 2: the programme a body carries, clamped. -/
def programmeOf (b : List Byte) (t : Trigger) (src : Source) (c : CountStart) : Programme :=
  { trigger := t, source := src, targets := BitVec.ofNat 16 (wordAt b 3), position := optOf (byteAt b 5),
    gain := clampInt (-480) 48 (intAt b 6), duration := clampInt 1 600 (wordAt b 8), countStart := c,
    tail := clampInt 0 600 (wordAt b 11) }

/-- R141: a value of the programme was clamped. -/
def programmeClamped (b : List Byte) (p : Programme) : Bool :=
  p.gain != intAt b 6 || p.duration != (wordAt b 8 : Int) || p.tail != (wordAt b 11 : Int)

/-- R141: SET OVERRIDE PROGRAMME. -/
def State.setOverrideProgramme (s : State) (p : Packet) : Verdict :=
  let b := p.body
  if s.imageBusy then s.refuse .busy []
  else
    match ovLineOf (byteAt b 0), triggerOf (byteAt b 1), sourceOf (byteAt b 2), countStartOf (byteAt b 10) with
    | some l, some t, some src, some c =>
      if optBelow (optOf (byteAt b 5)) 24 then
        let q := programmeOf b t src c
        let u := s.storeProgramme l q
        (u, doneOr (programmeClamped b q), (u.ov l).programme.fieldsFor l)
      else s.refuseRange 0
    | _, _, _, _ => s.refuseRange 0

/-- R144: OVERRIDE ENABLE; the value is SET or CLEAR, coded 0 and 1 in that order (R193). -/
def State.writeEnable (s : State) (p : Packet) : Verdict :=
  match byteAt p.body 0 with
  | 0 => (s.setEnable true, .done, [])
  | 1 => (s.setEnable false, .done, [])
  | _ => s.refuseRange 0

/-- R154: the countdown after an extension. -/
def Countdown.reload (c : Countdown) (units : Nat) : Countdown :=
  match c with
  | .running _ => loaded units
  | .none => .none
  | .stopped => .stopped

/-- R154: EXTEND OVERRIDE on an ACTIVE override. -/
def Override.extend (r : Override) (units : Nat) : Override :=
  match r.trigger with
  | .edge => { r with durationInForce := units, countdown := r.countdown.reload units }
  | .level => { r with tailInForce := units, countdown := r.countdown.reload units }

/-- R154: the duration in range for the trigger. -/
def extendLow (t : Trigger) : Int :=
  match t with
  | .edge => 1
  | .level => 0

/-- R154: EXTEND OVERRIDE. -/
def State.extendOverride (s : State) (p : Packet) : Verdict :=
  match oLineOf (byteAt p.body 0) with
  | none => s.refuseRange 0
  | some l =>
    let r := s.ov l
    if r.state = .active then
      let raw : Int := wordAt p.body 1
      let v := clampInt (extendLow r.trigger) 600 raw
      let t := s.modOv l fun r => r.extend v.toNat
      (t, doneOr (v != raw), (t.ov l).countdown.fields)
    else s.refuse .notActive []

/-- R155: the marks CANCEL OVERRIDE leaves: the latch is cleared, a LEVEL line is suppressed. -/
def Override.cancelMarks (r : Override) : Override :=
  { r with latch := false, suppressed := r.suppressed || r.trigger == .level }

/-- R155: CANCEL OVERRIDE. -/
def State.cancelOverride (s : State) (p : Packet) : Verdict :=
  match oLineOf (byteAt p.body 0) with
  | none => s.refuseRange 0
  | some l =>
    match (s.ov l).state with
    | .idle | .ending => s.refuse .notActive []
    | .requesting => (s.modOv l fun r => { r.cancelMarks with state := .idle }, .done, [])
    | .active => ((s.modOv l Override.cancelMarks).turnByRequest l, .done, [])

/-- R156: EVAC CLEAR. -/
def State.evacClear (s : State) (_p : Packet) : Verdict :=
  let r := s.ov .evac
  if r.sample then s.refuse .refusedState []
  else if r.latch = false then (s, .done, [])
  else
    let t := State.modOv { s with status := { s.status with evac := false } } .evac
      fun r => { r with latch := false }
    if r.state = .active then
      ((t.turnByRequest .evac).post .overrides .evacState 0 [f2 OverrideState.ending.code], .done, [])
    else (t.followRequest .evac, .done, [])

/-- R159: STANDBY. -/
def State.enterStandby (s : State) (_p : Packet) : Verdict :=
  if s.anyInService || s.overrideInUse || (s.ov .evac).latch then s.refuse .refusedState []
  else ({ s with standby := true }, .done, [])

/-- R160: WAKE UNIT. -/
def State.wakeUnit (s : State) (_p : Packet) : Verdict := ({ s with standby := false }, .done, [])

/-! ## Link, inputs and keys (R28, R38, R171, R178) -/

/-- R38: SET LOCAL PORT. -/
def State.setLocalPort (s : State) (p : Packet) : Verdict :=
  let d := byteAt p.body 0
  if d = 32 ∨ d = 64 then ({ s with port := s.port.setDepth d }, .done, []) else s.refuseRange 0

/-- R28 step 1, R194: an item of SET SLOT MAP is in range. -/
def slotItemOk (i : List Byte) : Bool :=
  decide (byteAt i 0 ≤ 40) && optBelow (optOf (byteAt i 1)) 64

/-- R28 step 2: one item sets one entry. -/
def SlotMap.setItem (m : SlotMap) (i : List Byte) : SlotMap :=
  let e := byteAt i 0
  let v := optOf (byteAt i 1)
  if e < 24 then { m with positions := m.positions.set e v }
  else if e < 40 then { m with zones := m.zones.set (e - 24) v }
  else { m with announce := v }

/-- R28: SET SLOT MAP. -/
def State.setSlotMap (s : State) (p : Packet) : Verdict :=
  let items := itemsOf 2 p.body
  if s.imageBusy then s.refuse .busy []
  else
    match firstBad slotItemOk items with
    | some place => s.refuseRange place
    | none =>
      let m := items.foldl SlotMap.setItem s.slotMap
      match (List.range 64).find? m.slotTwice with
      | some n =>
        let z := zoneIndexes.find? fun z =>
          m.zones.getD z none == some n && items.any fun i => byteAt i 0 == 24 + z
        s.refuse .refusedConflict [f1 OutcomeCode.slotConflict.code, f1 n, fo z]
      | none => (s.installMap true m, .done, [])

/-- The 64 marks of a body of eight bytes. -/
def groupsOf (b : List Byte) : BitVec 64 :=
  BitVec.ofNat 64 (b.foldl (fun n x => n * 256 + x.toNat) 0)

/-- R171: SET GROUP FILTER. -/
def State.setGroupFilter (s : State) (p : Packet) : Verdict :=
  let g := groupsOf p.body
  ({ s with link := { s.link with groups := g } }, .done, [⟨8, g.toNat⟩])

/-- R178: SET UNIT KEY. -/
def State.setUnitKey (s : State) (p : Packet) : Verdict :=
  ({ s with unitKey := BitVec.ofNat 16 (wordAt p.body 0) }, .done, [])

/-! ## The image (R188, R189) -/

/-- R188: SAVE IMAGE. -/
def State.saveImage (s : State) (_p : Packet) : Verdict :=
  if s.imageBusy || s.flush.isSome || s.allocClear.isSome || s.audioReset.isSome then s.refuse .busy []
  else ({ s with save := some ⟨⟨400, false⟩, s.imageCopy⟩ }, .started, [])

/-- R189: LOAD IMAGE. -/
def State.loadImage (s : State) (_p : Packet) : Verdict :=
  if s.imageBusy then s.refuse .busy []
  else if s.anyInService || s.overrideInUse || (s.ov .evac).latch then s.refuse .refusedState []
  else ({ s with load := some ⟨⟨200, false⟩, false, false⟩ }, .started, [])

end Sys2Proof.Machine
end

