-- ==== Sys2Proof/Machine/Resets.lean ====
section
/-! DEFINITION. RESET with its selectors (R187 and each chapter's values-after-reset rule), power-up
(R191) and the loss of power (R188). -/

namespace Sys2Proof.Machine

/-! ## RESET PLANS (R25, R40, R65, R80, R107, R127, R139, R162, R176, R187) -/

/-- R127, R107: a zone under RESET PLANS. -/
def Zone.resetPlans (r : Zone) : Zone :=
  { r with home := .off, entered := none, announceTap := 0, dipWeight := 4096, tap := none, duckTarget := 0 }

/-- R139: the proving unit under RESET PLANS. -/
def Proving.resetPlans (r : Proving) : Proving := { Proving.reset with errors := r.errors }

/-- R162: an O override under RESET PLANS. -/
def Override.resetPlans (r : Override) : Override :=
  { r with
    programme := Programme.factoryO, latch := false,
    state := if r.state = .requesting then .idle else r.state }

/-- RESET PLANS. The lead level goes to -480 (log entry 34). -/
def State.resetPlans (s : State) : State :=
  let s := State.installMap { s with areas := s.areas.map fun _ => Area.reset } false SlotMap.factory
  let s := forLines oLines (fun l t => t.modOv l Override.resetPlans) s
  let s := s.modOv .evac fun r => { r with programme := Programme.factoryEvac }
  State.dropPaths (State.setLengths
    { s with
      port := s.port.setDepth 32
      delay := DelayComputer.reset
      zones := s.zones.map Zone.resetPlans
      proving := s.proving.resetPlans
      overrideEnable := false
      link := { s.link with groups := 0 }
      unitKey := 0 } factoryAllocation)

/-! ## RESET AUDIO (R40, R64, R106, R127, R139) -/

/-- R64: a member record under RESET AUDIO. -/
def MemberRec.resetAudio (r : MemberRec) : MemberRec :=
  { r with s := -480, f := -300, rise := 0, gate := .closed, hold := 0, t := -480, g := -480, isNew := false }

/-- R64, R106: an area under RESET AUDIO, less the taps formed for it. S_top, E and the lead level go to -480
(log entry 34). -/
def Area.resetAudio (r : Area) : Area :=
  { r.restLead with
    records := r.records.map MemberRec.resetAudio, leadLevel := -480, nom := 1, speechTop := -480,
    ensembleLevel := -480, pendingRequest := false, decisionDue := false, checkDue := false }

/-- R40: a channel under RESET AUDIO. -/
def Channel.resetAudio (c : Channel) : Channel :=
  { c with presence := .absent, history := List.replicate 32 false, held := 0, run := 0, level := -480 }

/-- R40: the local port under RESET AUDIO. A pending slip and a turn that waits for its boundary go with it
(log entry 33). -/
def Port.resetAudio (p : Port) : Port := { Port.reset with depth := p.depth }

/-- R127, R106, R139: a zone under RESET AUDIO. -/
def Zone.resetAudio (r : Zone) : Zone :=
  { r with
    current := if r.current = .off ∧ r.phase = .steady then .off else .quiet
    phase := .steady, next := none, settleCount := 0, length := 1536, progress := 0, short := false,
    entered := none, announceTap := 0, dipWeight := 4096, duckTarget := 0, duck := 0, bypass := false,
    insert := false }

/-- R139: the proving unit under RESET AUDIO. -/
def Proving.resetAudio (r : Proving) : Proving :=
  { r.search with state := if r.assignment.isSome then .searching else .idle }

/-- R106: a steered tap is formed for each zone of a running area and of the IN_SERVICE areas joined to it.
Clamped taps are reported in this order (log entry 7). -/
def State.formAreaTaps (s : State) (b : Nat) : State :=
  if s.running b then
    s.formTaps b ((s.area b).live.zoneList ++
      ((s.joinedAreas b).filter s.inService).flatMap fun a => (s.area a).live.zoneList)
  else s

/-- RESET AUDIO, when it is taken. -/
def State.resetAudio (s : State) : State :=
  let s := forEach areaIndexes (fun a t => t.abandon a fun _ => false) s
  let s : State := { s with
    areas := s.areas.map Area.resetAudio
    channels := s.channels.map Channel.resetAudio
    port := s.port.resetAudio
    lines := s.lines.map fun l => { l with faulted := false }
    flush := none
    zones := s.zones.map Zone.resetAudio
    proving := s.proving.resetAudio
    audioReset := some ⟨32, false⟩ }
  forEach areaIndexes (fun b t => t.formAreaTaps b) s

/-! ## RESET REPORTING (R187) -/

/-- RESET REPORTING, but for the flags of standing conditions. -/
def State.clearReporting (s : State) : State :=
  { s with
    status := s.status.cleared
    proving := { s.proving with errors := 0 }
    queue := []
    kindMask := 0
    suppress := 0
    reporting := 0 }

/-! ## The RESET request -/

/-- R187: a selector of a set. -/
def selects (set : BitVec 8) (i : Nat) : Bool := set.getLsbD i

/-- R187: the resets of a set of selectors, each item taking the value of every selector that reaches
it. REPORTING clears the flags first and sets those of standing conditions last, so that a tap that the reset
itself clamps is flagged as it is reported (R79, R184; log entry 25). -/
def State.resets (s : State) (set : BitVec 8) : State :=
  let s := if selects set 2 then s.clearReporting else s
  let s := if selects set 1 then s.resetPlans else s
  let s := if selects set 0 then s.resetAudio else s
  if selects set 2 then s.setStanding else s

/-- R187: some override is ACTIVE or ENDING, or the EVAC latch is set. -/
def State.overrideHolds (s : State) : Bool :=
  (ovLines.any fun l => (s.ov l).state == .active || (s.ov l).state == .ending) || (s.ov .evac).latch

/-- R187: RESET. An AUDIO reset that finds one already in flight is BUSY (R180). -/
def State.reset_ (s : State) (p : Packet) : Verdict :=
  let set := BitVec.ofNat 8 (byteAt p.body 0)
  if set = 0 ∨ 8 ≤ byteAt p.body 0 then s.refuseRange 0
  else if s.imageBusy then s.refuse .busy []
  else if selects set 0 && s.audioReset.isSome then s.refuse .busy []
  else if (selects set 0 || selects set 1) && s.overrideHolds then s.refuse .refusedState []
  else (s.resets set, if selects set 0 then .started else .done, [])

/-! ## Power (R188, R191) -/

/-- R142, R162: an override at power-up with its line's first sample. -/
def Override.powerUp (r : Override) (active : Bool) : Override :=
  { r with sample := active, previous := active }

/-- R188: the image memory after a save cut short. -/
def State.cutSave (s : State) : ImageMemory :=
  match s.save with
  | none => s.image
  | some v => { mark := formatMark, sumGood := false, data := v.copy }

/-- R191 steps 1 to 3: every block takes its power-up values under the straps, and the lines take their
first samples; the image load or the fallback of step 4 waits for the first block boundary. -/
def State.powerUp (s : State) (straps : Straps) (contacts : Contacts) : State :=
  let u := { State.reset with
    pending := s.pending
    fallbackStrap := straps.fallback
    contacts := contacts
    link := Link.reset straps.address
    load := if straps.fallback then none else some ⟨⟨200, false⟩, false, true⟩
    fallbackDue := straps.fallback
    image := s.cutSave
    choices := s.choices }
  let u := forLines ovLines (fun l t => t.modOv l fun r => r.powerUp (contactOf contacts l)) u
  if contacts.evac then u.setEvacLatch.startOverride .evac none fun _ => .absent else u

/-- R188: supply is removed. -/
def State.losePower (s : State) : State := { s with powered := false, image := s.cutSave, save := none }

end Sys2Proof.Machine
end

