-- ==== Sys2Proof/Machine/Kinds.lean ====
section
/-! DEFINITION. The request kinds (R194): each kind's code, body length and key, and the dispatch of a
taken packet (R177). -/

namespace Sys2Proof.Machine

/-- READ STATUS (R182), kind 1 (R194). -/
def State.onReadStatus (s : State) (p : Packet) : State :=
  s.request 1 p (exactly 1) State.noKey true State.readStatus

/-- CLEAR STATUS (R182), kind 2 (R194). -/
def State.onClearStatus (s : State) (p : Packet) : State :=
  s.request 2 p (exactly 0) State.noKey false State.clearStatus

/-- SET NOTICE MASK (R185), kind 3 (R194). -/
def State.onSetNoticeMask (s : State) (p : Packet) : State :=
  s.request 3 p (exactly 6) State.noKey false State.setNoticeMask

/-- READ MONITOR (R183), kind 4 (R194). -/
def State.onReadMonitor (s : State) (p : Packet) : State :=
  s.request 4 p (exactly 1) State.noKey true State.readMonitor

/-- WRITE PLAN (R15), kind 5 (R194). -/
def State.onWritePlan (s : State) (p : Packet) : State :=
  s.request 5 p (itemsAfter 1 4 12) State.byAreaKey false State.writePlan

/-- READ PLAN (R16), kind 6 (R194). -/
def State.onReadPlan (s : State) (p : Packet) : State :=
  s.request 6 p (exactly 3) State.noKey false State.readPlan

/-- TAKE (R18), kind 7 (R194). -/
def State.onTake (s : State) (p : Packet) : State :=
  s.request 7 p (exactly 1) State.byAreaKey false State.takePlan

/-- DISCARD (R17), kind 8 (R194). -/
def State.onDiscard (s : State) (p : Packet) : State :=
  s.request 8 p (exactly 1) State.byAreaKey false State.discardPlan

/-- WAKE AREA (R8), kind 9 (R194). -/
def State.onWakeArea (s : State) (p : Packet) : State :=
  s.request 9 p (exactly 1) State.byAreaKey false State.wakeArea

/-- REST AREA (R9), kind 10 (R194). -/
def State.onRestArea (s : State) (p : Packet) : State :=
  s.request 10 p (exactly 1) State.byAreaKey false State.restArea

/-- WRITE DISTANCES (R67), kind 11 (R194). -/
def State.onWriteDistances (s : State) (p : Packet) : State :=
  s.request 11 p (itemsAfter 0 4 24) State.byUnitKey false State.writeDistances

/-- READ DISTANCES (R68), kind 12 (R194). -/
def State.onReadDistances (s : State) (p : Packet) : State :=
  s.requestRead 12 p (exactly 1) State.readDistances

/-- SET AIR TEMPERATURE (R69), kind 13 (R194). -/
def State.onSetAirTemperature (s : State) (p : Packet) : State :=
  s.request 13 p (exactly 2) State.byUnitKey false State.setAirTemperature

/-- SET ALLOCATION (R84), kind 14 (R194). -/
def State.onSetAllocation (s : State) (p : Packet) : State :=
  s.request 14 p (exactly 14) State.byUnitKey false State.setAllocation

/-- FLUSH LINE (R103), kind 15 (R194). -/
def State.onFlushLine (s : State) (p : Packet) : State :=
  s.request 15 p (exactly 1) State.byUnitKey false State.flushLine

/-- SET ZONE MODE (R112), kind 16 (R194). -/
def State.onSetZoneMode (s : State) (p : Packet) : State :=
  s.request 16 p (exactly 3) State.noKey false State.setZoneMode

/-- SET PROVING (R131), kind 18 (R194). -/
def State.onSetProving (s : State) (p : Packet) : State :=
  s.request 18 p (exactly 4) State.noKey false State.setProving

/-- INSERT PROVING ERROR (R130), kind 19 (R194). -/
def State.onInsertProvingError (s : State) (p : Packet) : State :=
  s.request 19 p (exactly 1) State.noKey false State.insertProvingError

/-- READ PROVING (R138), kind 20 (R194). -/
def State.onReadProving (s : State) (p : Packet) : State :=
  s.requestRead 20 p (exactly 0) State.readProving

/-- CLEAR PROVING COUNT (R138), kind 21 (R194). -/
def State.onClearProvingCount (s : State) (p : Packet) : State :=
  s.request 21 p (exactly 0) State.noKey false State.clearProvingCount

/-- SET OVERRIDE PROGRAMME (R141), kind 22 (R194). -/
def State.onSetOverrideProgramme (s : State) (p : Packet) : State :=
  s.request 22 p (exactly 13) State.byUnitKey false State.setOverrideProgramme

/-- OVERRIDE ENABLE (R144), kind 23 (R194). -/
def State.onOverrideEnable (s : State) (p : Packet) : State :=
  s.request 23 p (exactly 1) State.byUnitKey false State.writeEnable

/-- EXTEND OVERRIDE (R154), kind 24 (R194). -/
def State.onExtendOverride (s : State) (p : Packet) : State :=
  s.request 24 p (exactly 3) State.noKey false State.extendOverride

/-- CANCEL OVERRIDE (R155), kind 25 (R194). -/
def State.onCancelOverride (s : State) (p : Packet) : State :=
  s.request 25 p (exactly 1) State.noKey false State.cancelOverride

/-- EVAC CLEAR (R156), kind 26 (R194). -/
def State.onEvacClear (s : State) (p : Packet) : State :=
  s.request 26 p (exactly 0) State.byUnitKey false State.evacClear

/-- SET LOCAL PORT (R38), kind 27 (R194). -/
def State.onSetLocalPort (s : State) (p : Packet) : State :=
  s.request 27 p (exactly 1) State.noKey false State.setLocalPort

/-- SET SLOT MAP (R28), kind 28 (R194). -/
def State.onSetSlotMap (s : State) (p : Packet) : State :=
  s.request 28 p (itemsAfter 0 2 41) State.byUnitKey false State.setSlotMap

/-- SET GROUP FILTER (R171), kind 29 (R194). -/
def State.onSetGroupFilter (s : State) (p : Packet) : State :=
  s.request 29 p (exactly 8) State.byUnitKey false State.setGroupFilter

/-- SET UNIT KEY (R178), kind 30 (R194). -/
def State.onSetUnitKey (s : State) (p : Packet) : State :=
  s.request 30 p (exactly 2) State.byUnitKey false State.setUnitKey

/-- RESET (R187), kind 31 (R194). -/
def State.onReset (s : State) (p : Packet) : State :=
  s.request 31 p (exactly 1) State.byUnitKey false State.reset_

/-- SAVE IMAGE (R188), kind 32 (R194). -/
def State.onSaveImage (s : State) (p : Packet) : State :=
  s.request 32 p (exactly 0) State.byUnitKey false State.saveImage

/-- LOAD IMAGE (R189), kind 33 (R194). -/
def State.onLoadImage (s : State) (p : Packet) : State :=
  s.request 33 p (exactly 0) State.byUnitKey false State.loadImage

/-- STANDBY (R159), kind 34 (R194). -/
def State.onStandby (s : State) (p : Packet) : State :=
  s.request 34 p (exactly 0) State.byUnitKey false State.enterStandby

/-- WAKE UNIT (R160), kind 35 (R194). -/
def State.onWakeUnit (s : State) (p : Packet) : State :=
  s.request 35 p (exactly 0) State.noKey false State.wakeUnit

/-- R177, R194: a taken packet is carried out by its kind; reply and notice kinds are discarded. -/
def State.carryPacket (s : State) (kind : Byte) (p : Packet) : State :=
  match kind.toNat with
  | 1 => s.onReadStatus p
  | 2 => s.onClearStatus p
  | 3 => s.onSetNoticeMask p
  | 4 => s.onReadMonitor p
  | 5 => s.onWritePlan p
  | 6 => s.onReadPlan p
  | 7 => s.onTake p
  | 8 => s.onDiscard p
  | 9 => s.onWakeArea p
  | 10 => s.onRestArea p
  | 11 => s.onWriteDistances p
  | 12 => s.onReadDistances p
  | 13 => s.onSetAirTemperature p
  | 14 => s.onSetAllocation p
  | 15 => s.onFlushLine p
  | 16 => s.onSetZoneMode p
  | 18 => s.onSetProving p
  | 19 => s.onInsertProvingError p
  | 20 => s.onReadProving p
  | 21 => s.onClearProvingCount p
  | 22 => s.onSetOverrideProgramme p
  | 23 => s.onOverrideEnable p
  | 24 => s.onExtendOverride p
  | 25 => s.onCancelOverride p
  | 26 => s.onEvacClear p
  | 27 => s.onSetLocalPort p
  | 28 => s.onSetSlotMap p
  | 29 => s.onSetGroupFilter p
  | 30 => s.onSetUnitKey p
  | 31 => s.onReset p
  | 32 => s.onSaveImage p
  | 33 => s.onLoadImage p
  | 34 => s.onStandby p
  | 35 => s.onWakeUnit p
  | k => if 64 ≤ k then s else s.unknownKind kind p

end Sys2Proof.Machine
end

