-- ==== Sys2Proof/Machine/EventRows.lean ====
section
/-! DEFINITION. The meanings of the event rows: power, frames, the block boundary, and the events that
fall in a frame or at a boundary. An event whose condition does not stand changes nothing. -/

namespace Sys2Proof.Machine

/-! ## Power and frames -/

/-- R184: posts notices again, after what has been posted since. -/
def State.repost (s : State) (ps : List Post) : State :=
  ps.foldl (fun t p => t.postAt p.block p.kind p.subject p.value p.stamp) s

/-- R186: where a frame's notices meet the request it completes, either is taken first. Notices that come
after the request are held back with their flags, as they stood in `before` when the frame began, and are
posted when it is done. -/
def State.meetRequest (s : State) (before : Status) (request : State → State) : State :=
  if s.posts.isEmpty then request s
  else
    let t := { s with choices := s.choices + 1 }
    if Config.noticeFirst s.choices then request t.flushPosts
    else State.repost (request { t with status := t.status.withFlagsOf before, posts := [] }) s.posts

/-- R1, R170, R184: what falls within the frame last sent finds the frame counter of that frame. The
counter steps when the frame is over (log entry 31). -/
def State.inFrame (s : State) (act : State → State) : State :=
  let t := act { s with link := { s.link with counter := s.link.stamp } }
  { t with link := { t.link with counter := s.link.counter } }

/-- R163, R170: one frame, with the block boundary before it where that has not been taken, and the
packet it completes. -/
def State.runFrame (s : State) (input : FrameInput) : State :=
  let s := if s.atBoundary then s.boundary.flushPosts else s
  let (t, taken) := s.period input
  match taken with
  | none => t
  | some (kind, p) =>
    t.settleEvents.meetRequest s.status fun u => u.inFrame fun v => v.carryPacket kind p

/-- POWER_UP_RESET (R191). -/
def execPowerUpReset (straps : Straps) (contacts : Contacts) (s : State) :
    Host.Outcome State Fault Refusal :=
  .next (s.powerUp straps contacts).flushPosts

/-- FRAME (R163). -/
def execFrame (input : FrameInput) (s : State) : Host.Outcome State Fault Refusal :=
  .next (s.powerOn fun t => t.runFrame input)

/-- LOCAL_FRAME (R165). -/
def execLocalFrame (input : FrameInput) (s : State) : Host.Outcome State Fault Refusal :=
  .next (s.powerOn fun t => t.runFrame input)

/-- LOSS_OF_POWER (R188). -/
def execLossOfPower (s : State) : Host.Outcome State Fault Refusal := .next s.losePower

/-! ## Events of a frame -/

/-- CHAIN_LOST (R164). -/
def execChainLost (s : State) : Host.Outcome State Fault Refusal := .next (s.frameEvent State.chainLost)

/-- CHAIN_REGAINED (R164). -/
def execChainRegained (s : State) : Host.Outcome State Fault Refusal :=
  .next (s.frameEvent State.chainRegained)

/-- LOCAL_PORT_WORD (R36): the word of the frame that comes next. -/
def execLocalPortWord (w : RawSample) (s : State) : Host.Outcome State Fault Refusal :=
  .next (s.powerOn fun t => t.portWord w)

/-- LOCAL_PORT_ABSENT (R35). -/
def execLocalPortAbsent (s : State) : Host.Outcome State Fault Refusal :=
  .next (s.frameEvent State.portAbsent)

/-- PROVING_LOCK (R133). -/
def execProvingLock (s : State) : Host.Outcome State Fault Refusal :=
  .next (s.frameEvent State.provingLock)

/-- PROVING_LOSS (R135). -/
def execProvingLoss (s : State) : Host.Outcome State Fault Refusal :=
  .next (s.frameEvent State.provingLoss)

/-- PROVING_WINDOW_END (R135). -/
def execProvingWindowEnd (s : State) : Host.Outcome State Fault Refusal :=
  .next (s.frameEvent State.provingWindowEnd)

/-! ## The block boundary and the mixer's events -/

/-- BLOCK_BOUNDARY (R1). A boundary follows the 48th frame of a block and nothing else: anywhere else the
command changes nothing (log entry 6). -/
def execBlockBoundary (s : State) : Host.Outcome State Fault Refusal :=
  .next (s.boundaryEvent State.atBoundary State.boundary)

/-- FLOOR_RISE (R46). -/
def execFloorRise (a p : Nat) (s : State) : Host.Outcome State Fault Refusal :=
  .next (s.boundaryEvent (fun t => t.floorDue a p) fun t =>
    (t.modArea a fun r => r.modRecord p MemberRec.raiseFloor).markEarly (.floor p))

/-- GATE_HOLD_EXPIRY (R48). -/
def execGateHoldExpiry (a p : Nat) (s : State) : Host.Outcome State Fault Refusal :=
  .next (s.boundaryEvent (fun t => t.gateDue a p) fun t =>
    (t.modArea a fun r => r.modRecord p MemberRec.closeGate).markEarly (.gate p))

/-- R57: the lead that is due is taken. -/
def State.takeLead (s : State) (a : Nat) : State :=
  match s.leadDue a with
  | some lead =>
    ((s.modArea a fun r => { r with leadLevel := s.leadLevelAhead a }).changeLead a lead).markEarly
      (.lead a)
  | none => s

/-- LEAD_CHANGE (R57). -/
def execLeadChange (a : Nat) (s : State) : Host.Outcome State Fault Refusal :=
  .next (s.boundaryEvent (fun t => (t.leadDue a).isSome) fun t => t.takeLead a)

/-- REST_FADE_END (R10). -/
def execRestFadeEnd (a : Nat) (s : State) : Host.Outcome State Fault Refusal :=
  .next (s.boundaryEvent (fun t => t.atBoundary && (t.area a).restCount == 1) fun t => t.restFadeEnd a)

/-! ## The steering unit's events -/

/-- R88: the part as a steering request finds it: whatever R88 puts before the requests of the boundary has been
taken (log entry 45). -/
def State.beforeRequests (s : State) : State := s.endForSteering.steerFirst

/-- STEERING_REQUEST (R88). -/
def execSteeringRequest (a : Nat) (s : State) : Host.Outcome State Fault Refusal :=
  .next (s.boundaryEvent (fun t => t.atBoundary && (t.area a).due) fun t =>
    t.beforeRequests.steeringRequest a)

/-- A dip is due on the record of area a. -/
def State.dipDue (s : State) (a : Nat) : Bool :=
  s.atBoundary && (s.phase a == .settled) && (s.dipChoice a).isSome && !s.early.contains (.flushed a)

/-- DIP_START (R91) on the record of an area. -/
def execDipStart (a : Nat) (s : State) : Host.Outcome State Fault Refusal :=
  .next (s.boundaryEvent (fun t => t.dipDue a) fun t => t.startWaitingDip a)

/-- DIP_MIDPOINT (R92) of the dip on the record of an area. -/
def execDipMidpoint (a : Nat) (s : State) : Host.Outcome State Fault Refusal :=
  .next (s.boundaryEvent
    (fun t => t.atBoundary && (t.area a).transition.any Transition.midpointDue) fun t => t.dipMidpoint a)

/-- TRANSITION_COMPLETE (R94) on the record of an area. -/
def execTransitionComplete (a : Nat) (s : State) : Host.Outcome State Fault Refusal :=
  .next (s.boundaryEvent (fun t => t.atBoundary && (t.area a).transitionDone) fun t =>
    t.transitionComplete a)

/-- REST_CANCEL_DECISION (R98) for an area. -/
def execRestCancelDecision (a : Nat) (s : State) : Host.Outcome State Fault Refusal :=
  .next (s.boundaryEvent (fun t => t.atBoundary && (t.area a).decisionDue) fun t =>
    t.restCancelDecision a)

/-! ## The ends of long operations -/

/-- ALLOCATION_CLEAR_END (R85). -/
def execAllocationClearEnd (s : State) : Host.Outcome State Fault Refusal :=
  .next (s.boundaryEvent (fun t => t.atBoundary && t.allocClear.any Timer.last) State.allocationClearEnd)

/-- FLUSH_END (R104). -/
def execFlushEnd (s : State) : Host.Outcome State Fault Refusal :=
  .next (s.boundaryEvent (fun t => t.atBoundary && t.flush.any fun f => f.2.last) State.flushEnd)

/-- RESET_AUDIO_END (R106). -/
def execResetAudioEnd (s : State) : Host.Outcome State Fault Refusal :=
  .next (s.boundaryEvent (fun t => t.atBoundary && t.audioReset.any Timer.last) State.resetAudioEnd)

/-- IMAGE_SAVE_END (R188). -/
def execImageSaveEnd (s : State) : Host.Outcome State Fault Refusal :=
  .next (s.boundaryEvent (fun t => t.atBoundary && t.save.any fun v => v.timer.last) State.imageSaveEnd)

/-- The pass of a load that is due to end at the coming boundary. -/
def State.passDue (s : State) (second : Bool) : Bool :=
  s.atBoundary && !s.early.contains .loadPass && s.load.any fun l => l.second == second && l.timer.last

/-- IMAGE_LOAD_FIRST_PASS_END (R189). -/
def execImageLoadFirstPassEnd (s : State) : Host.Outcome State Fault Refusal :=
  .next (s.boundaryEvent (fun t => t.passDue false) fun t => t.loadFirstPassEnd.markEarly .loadPass)

/-- IMAGE_LOAD_SECOND_PASS_END (R190). -/
def execImageLoadSecondPassEnd (s : State) : Host.Outcome State Fault Refusal :=
  .next (s.boundaryEvent (fun t => t.passDue true) State.loadSecondPassEnd)

/-- FALLBACK_INSTALL (R26, R191). -/
def execFallbackInstall (s : State) : Host.Outcome State Fault Refusal :=
  .next (s.boundaryEvent (fun t => t.atBoundary && t.fallbackDue) State.installFallback)

/-! ## The zones' events -/

/-- R115: a change's fade-out stands at 0. -/
def Zone.fadeOutDue (r : Zone) : Bool := r.phase == .fadeOut && r.next.isSome && r.progress == 0

/-- R115: the end of a fade-out, with the mark of a settle that begins here. -/
def State.takeFadeOutEnd (s : State) (z : Nat) : State :=
  let t := s.fadeOutEnd z
  if (t.zone z).phase = .settle then t.markEarly (.settle z) else t

/-- FADE_OUT_END (R115). -/
def execFadeOutEnd (z : Nat) (s : State) : Host.Outcome State Fault Refusal :=
  .next (s.boundaryEvent (fun t => t.atBoundary && (t.zone z).fadeOutDue) fun t => t.takeFadeOutEnd z)

/-- R115: a settle ends at the coming boundary. -/
def State.settleDue (s : State) (z : Nat) : Bool :=
  s.atBoundary && (s.zone z).phase == .settle && decide ((s.zone z).settleCount ≤ 1) &&
    !s.early.contains (.settle z)

/-- SETTLE_END (R115). -/
def execSettleEnd (z : Nat) (s : State) : Host.Outcome State Fault Refusal :=
  .next (s.boundaryEvent (fun t => t.settleDue z) fun t => t.settleEnd z)

/-- R115: a fade-in stands at its length. -/
def Zone.fadeInDue (r : Zone) : Bool := r.phase == .fadeIn && decide (r.length ≤ r.progress)

/-- FADE_IN_END (R115). -/
def execFadeInEnd (z : Nat) (s : State) : Host.Outcome State Fault Refusal :=
  .next (s.boundaryEvent (fun t => t.atBoundary && (t.zone z).fadeInDue) fun t =>
    t.modZone z Zone.fadeInEnd)

/-! ## The controller's events -/

/-- R151: the expiry that is due is taken. -/
def State.takeExpiry (s : State) : State :=
  match s.expiryDue with
  | some l => s.expire l
  | none => s

/-- COUNTDOWN_EXPIRY (R151). -/
def execCountdownExpiry (s : State) : Host.Outcome State Fault Refusal :=
  .next (s.boundaryEvent (fun t => t.atBoundary && t.expiryDue.isSome) State.takeExpiry)

/-- R141, R150: the release that the samples of the coming boundary leave due, or that right after a boundary
the zones' switches made due, under the settings that govern the lines at that boundary. -/
def State.releaseAhead (s : State) : Option OvLine :=
  let t := s.withReplaced
  if s.atBoundary then t.sampleLines.releaseDue else if s.link.inBlock = 0 then t.releaseDue else none

/-- R150: the release that is due is taken. -/
def State.takeRelease (s : State) : State :=
  match s.releaseAhead with
  | some l => s.releaseBus l
  | none => s

/-- OVERRIDE_RELEASE (R150). -/
def execOverrideRelease (s : State) : Host.Outcome State Fault Refusal :=
  .next (s.boundaryEvent (fun t => t.releaseAhead.isSome) State.takeRelease)

end Sys2Proof.Machine
end

