-- ==== Sys2Proof/Machine/RequestRows.lean ====
section
/-! DEFINITION. The meanings of the request rows: a taken packet of the row's kind is handed to the
request engine (R177). The RESET rows are the three selectors of one request (R187). -/

namespace Sys2Proof.Machine

/-- READ_STATUS (R182). -/
def execReadStatus (p : Packet) (s : State) : Host.Outcome State Fault Refusal :=
  .next (s.powerOn fun t => t.onReadStatus p)

/-- CLEAR_STATUS (R182). -/
def execClearStatus (p : Packet) (s : State) : Host.Outcome State Fault Refusal :=
  .next (s.powerOn fun t => t.onClearStatus p)

/-- SET_NOTICE_MASK (R185). -/
def execSetNoticeMask (p : Packet) (s : State) : Host.Outcome State Fault Refusal :=
  .next (s.powerOn fun t => t.onSetNoticeMask p)

/-- READ_MONITOR (R183). -/
def execReadMonitor (p : Packet) (s : State) : Host.Outcome State Fault Refusal :=
  .next (s.powerOn fun t => t.onReadMonitor p)

/-- WRITE_PLAN (R15). -/
def execWritePlan (p : Packet) (s : State) : Host.Outcome State Fault Refusal :=
  .next (s.powerOn fun t => t.onWritePlan p)

/-- READ_PLAN (R16). -/
def execReadPlan (p : Packet) (s : State) : Host.Outcome State Fault Refusal :=
  .next (s.powerOn fun t => t.onReadPlan p)

/-- TAKE (R18). -/
def execTake (p : Packet) (s : State) : Host.Outcome State Fault Refusal :=
  .next (s.powerOn fun t => t.onTake p)

/-- DISCARD (R17). -/
def execDiscard (p : Packet) (s : State) : Host.Outcome State Fault Refusal :=
  .next (s.powerOn fun t => t.onDiscard p)

/-- WAKE_AREA (R8). -/
def execWakeArea (p : Packet) (s : State) : Host.Outcome State Fault Refusal :=
  .next (s.powerOn fun t => t.onWakeArea p)

/-- REST_AREA (R9). -/
def execRestArea (p : Packet) (s : State) : Host.Outcome State Fault Refusal :=
  .next (s.powerOn fun t => t.onRestArea p)

/-- WRITE_DISTANCES (R67). -/
def execWriteDistances (p : Packet) (s : State) : Host.Outcome State Fault Refusal :=
  .next (s.powerOn fun t => t.onWriteDistances p)

/-- READ_DISTANCES (R68). -/
def execReadDistances (p : Packet) (s : State) : Host.Outcome State Fault Refusal :=
  .next (s.powerOn fun t => t.onReadDistances p)

/-- SET_AIR_TEMPERATURE (R69). -/
def execSetAirTemperature (p : Packet) (s : State) : Host.Outcome State Fault Refusal :=
  .next (s.powerOn fun t => t.onSetAirTemperature p)

/-- SET_ALLOCATION (R84). -/
def execSetAllocation (p : Packet) (s : State) : Host.Outcome State Fault Refusal :=
  .next (s.powerOn fun t => t.onSetAllocation p)

/-- FLUSH_LINE (R103). -/
def execFlushLine (p : Packet) (s : State) : Host.Outcome State Fault Refusal :=
  .next (s.powerOn fun t => t.onFlushLine p)

/-- SET_ZONE_MODE (R112). -/
def execSetZoneMode (p : Packet) (s : State) : Host.Outcome State Fault Refusal :=
  .next (s.powerOn fun t => t.onSetZoneMode p)

/-- SET_PROVING (R131). -/
def execSetProving (p : Packet) (s : State) : Host.Outcome State Fault Refusal :=
  .next (s.powerOn fun t => t.onSetProving p)

/-- INSERT_PROVING_ERROR (R130). -/
def execInsertProvingError (p : Packet) (s : State) : Host.Outcome State Fault Refusal :=
  .next (s.powerOn fun t => t.onInsertProvingError p)

/-- READ_PROVING (R138). -/
def execReadProving (p : Packet) (s : State) : Host.Outcome State Fault Refusal :=
  .next (s.powerOn fun t => t.onReadProving p)

/-- CLEAR_PROVING_COUNT (R138). -/
def execClearProvingCount (p : Packet) (s : State) : Host.Outcome State Fault Refusal :=
  .next (s.powerOn fun t => t.onClearProvingCount p)

/-- SET_OVERRIDE_PROGRAMME (R141). -/
def execSetOverrideProgramme (p : Packet) (s : State) : Host.Outcome State Fault Refusal :=
  .next (s.powerOn fun t => t.onSetOverrideProgramme p)

/-- OVERRIDE_ENABLE (R144). -/
def execOverrideEnable (p : Packet) (s : State) : Host.Outcome State Fault Refusal :=
  .next (s.powerOn fun t => t.onOverrideEnable p)

/-- EXTEND_OVERRIDE (R154). -/
def execExtendOverride (p : Packet) (s : State) : Host.Outcome State Fault Refusal :=
  .next (s.powerOn fun t => t.onExtendOverride p)

/-- CANCEL_OVERRIDE (R155). -/
def execCancelOverride (p : Packet) (s : State) : Host.Outcome State Fault Refusal :=
  .next (s.powerOn fun t => t.onCancelOverride p)

/-- EVAC_CLEAR (R156). -/
def execEvacClear (p : Packet) (s : State) : Host.Outcome State Fault Refusal :=
  .next (s.powerOn fun t => t.onEvacClear p)

/-- SET_LOCAL_PORT (R38). -/
def execSetLocalPort (p : Packet) (s : State) : Host.Outcome State Fault Refusal :=
  .next (s.powerOn fun t => t.onSetLocalPort p)

/-- SET_SLOT_MAP (R28). -/
def execSetSlotMap (p : Packet) (s : State) : Host.Outcome State Fault Refusal :=
  .next (s.powerOn fun t => t.onSetSlotMap p)

/-- SET_GROUP_FILTER (R171). -/
def execSetGroupFilter (p : Packet) (s : State) : Host.Outcome State Fault Refusal :=
  .next (s.powerOn fun t => t.onSetGroupFilter p)

/-- SET_UNIT_KEY (R178). -/
def execSetUnitKey (p : Packet) (s : State) : Host.Outcome State Fault Refusal :=
  .next (s.powerOn fun t => t.onSetUnitKey p)

/-- SAVE_IMAGE (R188). -/
def execSaveImage (p : Packet) (s : State) : Host.Outcome State Fault Refusal :=
  .next (s.powerOn fun t => t.onSaveImage p)

/-- LOAD_IMAGE (R189). -/
def execLoadImage (p : Packet) (s : State) : Host.Outcome State Fault Refusal :=
  .next (s.powerOn fun t => t.onLoadImage p)

/-- STANDBY (R159). -/
def execStandby (p : Packet) (s : State) : Host.Outcome State Fault Refusal :=
  .next (s.powerOn fun t => t.onStandby p)

/-- WAKE_UNIT (R160). -/
def execWakeUnit (p : Packet) (s : State) : Host.Outcome State Fault Refusal :=
  .next (s.powerOn fun t => t.onWakeUnit p)

/-- RESET_AUDIO (R187): a RESET whose set of selectors holds this one. -/
def execResetAudio (p : Packet) (s : State) : Host.Outcome State Fault Refusal :=
  .next (s.powerOn fun t => t.onReset p)

/-- RESET_PLANS (R25, R187): a RESET whose set of selectors holds this one. -/
def execResetPlans (p : Packet) (s : State) : Host.Outcome State Fault Refusal :=
  .next (s.powerOn fun t => t.onReset p)

/-- RESET_REPORTING (R187): a RESET whose set of selectors holds this one. -/
def execResetReporting (p : Packet) (s : State) : Host.Outcome State Fault Refusal :=
  .next (s.powerOn fun t => t.onReset p)

/-- UNKNOWN_KIND (R194). -/
def execUnknownKind (kind : Byte) (p : Packet) (s : State) : Host.Outcome State Fault Refusal :=
  .next (s.powerOn fun t => t.unknownKind kind p)

/-- NON_REQUEST_PACKET (R177 step 1): discarded with no change. -/
def execNonRequestPacket (_kind : Byte) (_p : Packet) (s : State) : Host.Outcome State Fault Refusal :=
  .next s

end Sys2Proof.Machine
end

