-- ==== Sys2Proof/Machine/Dispatch.lean ====
section
/-! DEFINITION. The meaning of every command: one arm for each row of the table. -/

namespace Sys2Proof.Machine

def exec (i : Instr) (s : State) : Host.Outcome State Fault Refusal :=
  match i with
  | .powerUpReset straps contacts => Sys2Proof.Machine.execPowerUpReset straps contacts s
  | .frame input => Sys2Proof.Machine.execFrame input s
  | .localFrame input => Sys2Proof.Machine.execLocalFrame input s
  | .chainLost => Sys2Proof.Machine.execChainLost s
  | .chainRegained => Sys2Proof.Machine.execChainRegained s
  | .localPortWord word => Sys2Proof.Machine.execLocalPortWord word s
  | .localPortAbsent => Sys2Proof.Machine.execLocalPortAbsent s
  | .blockBoundary => Sys2Proof.Machine.execBlockBoundary s
  | .floorRise area position => Sys2Proof.Machine.execFloorRise area position s
  | .gateHoldExpiry area position => Sys2Proof.Machine.execGateHoldExpiry area position s
  | .leadChange area => Sys2Proof.Machine.execLeadChange area s
  | .restFadeEnd area => Sys2Proof.Machine.execRestFadeEnd area s
  | .steeringRequest area => Sys2Proof.Machine.execSteeringRequest area s
  | .dipStart area => Sys2Proof.Machine.execDipStart area s
  | .dipMidpoint area => Sys2Proof.Machine.execDipMidpoint area s
  | .transitionComplete area => Sys2Proof.Machine.execTransitionComplete area s
  | .restCancelDecision area => Sys2Proof.Machine.execRestCancelDecision area s
  | .allocationClearEnd => Sys2Proof.Machine.execAllocationClearEnd s
  | .flushEnd => Sys2Proof.Machine.execFlushEnd s
  | .resetAudioEnd => Sys2Proof.Machine.execResetAudioEnd s
  | .imageSaveEnd => Sys2Proof.Machine.execImageSaveEnd s
  | .imageLoadFirstPassEnd => Sys2Proof.Machine.execImageLoadFirstPassEnd s
  | .imageLoadSecondPassEnd => Sys2Proof.Machine.execImageLoadSecondPassEnd s
  | .fallbackInstall => Sys2Proof.Machine.execFallbackInstall s
  | .fadeOutEnd zone => Sys2Proof.Machine.execFadeOutEnd zone s
  | .settleEnd zone => Sys2Proof.Machine.execSettleEnd zone s
  | .fadeInEnd zone => Sys2Proof.Machine.execFadeInEnd zone s
  | .provingLock => Sys2Proof.Machine.execProvingLock s
  | .provingLoss => Sys2Proof.Machine.execProvingLoss s
  | .provingWindowEnd => Sys2Proof.Machine.execProvingWindowEnd s
  | .countdownExpiry => Sys2Proof.Machine.execCountdownExpiry s
  | .overrideRelease => Sys2Proof.Machine.execOverrideRelease s
  | .readStatus packet => Sys2Proof.Machine.execReadStatus packet s
  | .clearStatus packet => Sys2Proof.Machine.execClearStatus packet s
  | .setNoticeMask packet => Sys2Proof.Machine.execSetNoticeMask packet s
  | .readMonitor packet => Sys2Proof.Machine.execReadMonitor packet s
  | .writePlan packet => Sys2Proof.Machine.execWritePlan packet s
  | .readPlan packet => Sys2Proof.Machine.execReadPlan packet s
  | .take packet => Sys2Proof.Machine.execTake packet s
  | .discard packet => Sys2Proof.Machine.execDiscard packet s
  | .wakeArea packet => Sys2Proof.Machine.execWakeArea packet s
  | .restArea packet => Sys2Proof.Machine.execRestArea packet s
  | .writeDistances packet => Sys2Proof.Machine.execWriteDistances packet s
  | .readDistances packet => Sys2Proof.Machine.execReadDistances packet s
  | .setAirTemperature packet => Sys2Proof.Machine.execSetAirTemperature packet s
  | .setAllocation packet => Sys2Proof.Machine.execSetAllocation packet s
  | .flushLine packet => Sys2Proof.Machine.execFlushLine packet s
  | .setZoneMode packet => Sys2Proof.Machine.execSetZoneMode packet s
  | .setProving packet => Sys2Proof.Machine.execSetProving packet s
  | .insertProvingError packet => Sys2Proof.Machine.execInsertProvingError packet s
  | .readProving packet => Sys2Proof.Machine.execReadProving packet s
  | .clearProvingCount packet => Sys2Proof.Machine.execClearProvingCount packet s
  | .setOverrideProgramme packet => Sys2Proof.Machine.execSetOverrideProgramme packet s
  | .overrideEnable packet => Sys2Proof.Machine.execOverrideEnable packet s
  | .extendOverride packet => Sys2Proof.Machine.execExtendOverride packet s
  | .cancelOverride packet => Sys2Proof.Machine.execCancelOverride packet s
  | .evacClear packet => Sys2Proof.Machine.execEvacClear packet s
  | .setLocalPort packet => Sys2Proof.Machine.execSetLocalPort packet s
  | .setSlotMap packet => Sys2Proof.Machine.execSetSlotMap packet s
  | .setGroupFilter packet => Sys2Proof.Machine.execSetGroupFilter packet s
  | .setUnitKey packet => Sys2Proof.Machine.execSetUnitKey packet s
  | .resetAudio packet => Sys2Proof.Machine.execResetAudio packet s
  | .resetPlans packet => Sys2Proof.Machine.execResetPlans packet s
  | .resetReporting packet => Sys2Proof.Machine.execResetReporting packet s
  | .saveImage packet => Sys2Proof.Machine.execSaveImage packet s
  | .loadImage packet => Sys2Proof.Machine.execLoadImage packet s
  | .standby packet => Sys2Proof.Machine.execStandby packet s
  | .wakeUnit packet => Sys2Proof.Machine.execWakeUnit packet s
  | .unknownKind kind packet => Sys2Proof.Machine.execUnknownKind kind packet s
  | .nonRequestPacket kind packet => Sys2Proof.Machine.execNonRequestPacket kind packet s
  | .lossOfPower => Sys2Proof.Machine.execLossOfPower s

end Sys2Proof.Machine
end

