-- ==== Sys2Proof/WellFormed.lean ====
section
/-! DEFINITION. Which commands are well formed: a frame has 64 slots and four lane bytes (11.1), an event
names a subject that there is, a packet has a body that R192 admits, and a row of requests has what makes
it that row. The meanings are total: they give an ill-formed command an outcome too. -/

namespace Sys2Proof

/-- 11.1: a frame has 64 slots and four lane bytes. -/
def ChainFrame.wf (f : ChainFrame) : Bool := f.slots.length == 64 && f.laneBytes.length == 4

/-- A frame period: its frame is one of the link's, and the words upset lie in the memory (5.1). -/
def FrameInput.wf (i : FrameInput) : Bool :=
  i.arriving.all ChainFrame.wf && i.upsets.all fun a => a < 98304

/-- R168, R192: a packet's body holds at most 116 bytes. -/
def Packet.wf (p : Packet) : Bool := p.body.length ≤ 116

/-- R187: the RESET rows are those whose set of selectors holds the row's own. -/
def Packet.selects (p : Packet) (i : Nat) : Bool := (p.body.getD 0 0).getLsbD i

/-- An area of 1.1. -/
def areaOk (a : Nat) : Bool := a < 6

/-- A position of chapter 2. -/
def positionOk (p : Nat) : Bool := p < 24

/-- A zone of chapter 6. -/
def zoneOk (z : Nat) : Bool := z < 16

/-- R194: the kinds below 64 that are no request kind of this part. -/
def unknownKindOk (k : Byte) : Bool := k.toNat < 64 && (k == 0#8 || k == 17#8 || 36 ≤ k.toNat)

/-- R194: the kinds of replies and notices, and those above them. -/
def otherKindOk (k : Byte) : Bool := 64 ≤ k.toNat

/-- A command is well formed. -/
def Instr.wf (i : Instr) : Bool :=
  match i with
  | .frame input | .localFrame input => input.wf
  | .floorRise a p | .gateHoldExpiry a p => areaOk a && positionOk p
  | .leadChange a | .restFadeEnd a | .steeringRequest a | .dipStart a | .dipMidpoint a
  | .transitionComplete a | .restCancelDecision a => areaOk a
  | .fadeOutEnd z | .settleEnd z | .fadeInEnd z => zoneOk z
  | .powerUpReset _ _ | .chainLost | .chainRegained | .localPortWord _ | .localPortAbsent
  | .blockBoundary | .allocationClearEnd | .flushEnd | .resetAudioEnd | .imageSaveEnd
  | .imageLoadFirstPassEnd | .imageLoadSecondPassEnd | .fallbackInstall | .provingLock | .provingLoss
  | .provingWindowEnd | .countdownExpiry | .overrideRelease | .lossOfPower => true
  | .readStatus p | .clearStatus p | .setNoticeMask p | .readMonitor p | .writePlan p | .readPlan p
  | .take p | .discard p | .wakeArea p | .restArea p | .writeDistances p | .readDistances p
  | .setAirTemperature p | .setAllocation p | .flushLine p | .setZoneMode p | .setProving p
  | .insertProvingError p | .readProving p | .clearProvingCount p | .setOverrideProgramme p
  | .overrideEnable p | .extendOverride p | .cancelOverride p | .evacClear p | .setLocalPort p
  | .setSlotMap p | .setGroupFilter p | .setUnitKey p | .saveImage p | .loadImage p | .standby p
  | .wakeUnit p => p.wf
  | .resetAudio p => p.wf && p.selects 0
  | .resetPlans p => p.wf && p.selects 1
  | .resetReporting p => p.wf && p.selects 2
  | .unknownKind k p => unknownKindOk k && p.wf
  | .nonRequestPacket k p => otherKindOk k && p.wf

end Sys2Proof
end

