-- ==== Sys2Proof/Safety.lean ====
section
/-! DEFINITION. The terms claims use: when nothing is outstanding, when a request is admitted to its owning
block, and the laws a sound state of the part keeps. -/

namespace Sys2Proof.Machine

/-- The part is powered, no notice is waiting to be sent, and no event of the last frame waits for its
command: CHAIN_LOST, CHAIN_REGAINED (R164), LOCAL_PORT_ABSENT (R35), PROVING_LOCK, PROVING_LOSS,
PROVING_WINDOW_END (R133, R135). -/
abbrev State.quiet (s : State) : Prop :=
  s.powered = true ∧ s.posts = [] ∧ s.link.lostDue = false ∧ s.link.regainDue = false ∧
    s.port.absentDue = false ∧ s.proving.lockDue = false ∧ s.proving.lossDue = false ∧
    s.proving.windowDue = false

/-- Nothing is outstanding and the last frame of the block has been sent (R1). -/
abbrev State.quietAtBoundary (s : State) : Prop := s.quiet ∧ s.link.inBlock = 48

/-- R177 steps 2 and 5: a packet finds an entry of the outgoing queue free where it needs one, and no
engine-wide busy period. -/
abbrev State.open_ (s : State) (p : Packet) : Prop := s.mustDrop p = false ∧ s.engineBusy = false

/-- R177 steps 2, 5 and 6: a packet is admitted under a key. -/
abbrev State.admits (s : State) (p : Packet) (key : Key) : Prop :=
  s.open_ p ∧ (key = 0 ∨ key = p.key)

/-- The answer of a request in a quiet state: the state its owning block leaves, with the reply in the queue
and then the notices it posted (R179, R184). -/
abbrev State.answer (s : State) (kind : Nat) (p : Packet) (code : ResultCode) (body : List Field) :
    Host.Outcome State Fault Refusal :=
  .next (s.reply kind p code body).flushPosts

/-- One line of R194's table of requests, with the key of R178 that it is checked against and the owning block's
verdict. -/
structure RequestRow where
  /-- The kind code. -/
  kind : Nat
  /-- The row of commands that stands for a taken packet of the kind. -/
  row : Packet → Instr
  /-- The body lengths that R194 allows. -/
  fits : Nat → Bool
  key : State → Packet → Key
  act : State → Packet → Verdict

/-- R178: the request ignores its key field. -/
def unkeyed (_ : State) (_ : Packet) : Key := 0

/-- R178: the request is checked against the unit key. -/
def unitKeyed (s : State) (_ : Packet) : Key := s.unitKey

/-- R22, R178: the request is checked against the live key of the area that its first byte names, if any. -/
def areaKeyed (s : State) (p : Packet) : Key :=
  let a := (p.body.getD 0 0).toNat
  if a < 6 then (s.area a).live.areaKey else 0

/-- R194: `first` bytes and 1 to `most` items of n bytes. -/
def itemLengths (first n most length : Nat) : Bool :=
  (List.range most).any fun k => length == first + n * (k + 1)

/-- R178, R194: the requests that read and those of the plans. -/
def planRows : List RequestRow :=
  [⟨1, .readStatus, (· == 1), unkeyed, State.readStatus⟩,
    ⟨2, .clearStatus, (· == 0), unkeyed, State.clearStatus⟩,
    ⟨3, .setNoticeMask, (· == 6), unkeyed, State.setNoticeMask⟩,
    ⟨4, .readMonitor, (· == 1), unkeyed, State.readMonitor⟩,
    ⟨5, .writePlan, itemLengths 1 4 12, areaKeyed, State.writePlan⟩,
    ⟨6, .readPlan, (· == 3), unkeyed, State.readPlan⟩,
    ⟨7, .take, (· == 1), areaKeyed, State.takePlan⟩,
    ⟨8, .discard, (· == 1), areaKeyed, State.discardPlan⟩,
    ⟨9, .wakeArea, (· == 1), areaKeyed, State.wakeArea⟩,
    ⟨10, .restArea, (· == 1), areaKeyed, State.restArea⟩]

/-- R178, R194: the requests of the geometry, the lines, the zones and the proving unit. -/
def lineRows : List RequestRow :=
  [⟨11, .writeDistances, itemLengths 0 4 24, unitKeyed, State.writeDistances⟩,
    ⟨12, .readDistances, (· == 1), unkeyed, State.readDistances⟩,
    ⟨13, .setAirTemperature, (· == 2), unitKeyed, State.setAirTemperature⟩,
    ⟨14, .setAllocation, (· == 14), unitKeyed, State.setAllocation⟩,
    ⟨15, .flushLine, (· == 1), unitKeyed, State.flushLine⟩,
    ⟨16, .setZoneMode, (· == 3), unkeyed, State.setZoneMode⟩,
    ⟨18, .setProving, (· == 4), unkeyed, State.setProving⟩,
    ⟨19, .insertProvingError, (· == 1), unkeyed, State.insertProvingError⟩,
    ⟨20, .readProving, (· == 0), unkeyed, State.readProving⟩,
    ⟨21, .clearProvingCount, (· == 0), unkeyed, State.clearProvingCount⟩]

/-- R178, R194: the requests of the overrides, the link, the resets and the image. RESET is three rows. -/
def unitRows : List RequestRow :=
  [⟨22, .setOverrideProgramme, (· == 13), unitKeyed, State.setOverrideProgramme⟩,
    ⟨23, .overrideEnable, (· == 1), unitKeyed, State.writeEnable⟩,
    ⟨24, .extendOverride, (· == 3), unkeyed, State.extendOverride⟩,
    ⟨25, .cancelOverride, (· == 1), unkeyed, State.cancelOverride⟩,
    ⟨26, .evacClear, (· == 0), unitKeyed, State.evacClear⟩,
    ⟨27, .setLocalPort, (· == 1), unkeyed, State.setLocalPort⟩,
    ⟨28, .setSlotMap, itemLengths 0 2 41, unitKeyed, State.setSlotMap⟩,
    ⟨29, .setGroupFilter, (· == 8), unitKeyed, State.setGroupFilter⟩,
    ⟨30, .setUnitKey, (· == 2), unitKeyed, State.setUnitKey⟩,
    ⟨31, .resetAudio, (· == 1), unitKeyed, State.reset_⟩,
    ⟨31, .resetPlans, (· == 1), unitKeyed, State.reset_⟩,
    ⟨31, .resetReporting, (· == 1), unitKeyed, State.reset_⟩,
    ⟨32, .saveImage, (· == 0), unitKeyed, State.saveImage⟩,
    ⟨33, .loadImage, (· == 0), unitKeyed, State.loadImage⟩,
    ⟨34, .standby, (· == 0), unitKeyed, State.enterStandby⟩,
    ⟨35, .wakeUnit, (· == 0), unkeyed, State.wakeUnit⟩]

/-- R178, R194: every request kind of the part. -/
def requestRows : List RequestRow := planRows ++ lineRows ++ unitRows

/-- Some zone's output slot is slot n (R27). -/
abbrev SlotMap.writes (m : SlotMap) (n : Nat) : Prop := ∃ z < 16, m.zones.getD z none = some n

/-! ## Laws of a sound state -/

/-- R186, R184: the outgoing queue holds at most eight entries, and no notice waits between commands. -/
abbrev State.queueBounded (s : State) : Prop := s.queue.length ≤ 8 ∧ s.posts = []

/-- R146, R147: an override is ACTIVE or ENDING, and has a running copy, exactly while it holds the bus. -/
def State.busOwned (s : State) : Prop :=
  ∀ l : OvLine,
    (((s.ov l).state = .active ∨ (s.ov l).state = .ending) ↔ s.holder = some l) ∧
      ((s.ov l).copy.isSome = true ↔ s.holder = some l)

/-- R147: while the EVAC latch is set, the EVAC override holds the bus. -/
abbrev State.evacHolds (s : State) : Prop := (s.ov .evac).latch = true → s.holder = some .evac

/-- R108, R115: a zone that is steady or fading in is in no change, one that settles stands in QUIET,
and a settle of kind ENTERING_OFF heads for OFF. -/
def Zone.lawful (r : Zone) : Prop :=
  match r.phase with
  | .steady | .fadeIn => r.next = none
  | .settle => r.current = .quiet ∧ (r.settleKind = .enteringOff → r.next = some .off)
  | .fadeOut => True

/-- R120, R139: every zone is lawful; one in ANNOUNCE that is not fading out entered it under the override
that holds the bus and belongs to that override's target set; and none is in ANNOUNCE, or in a change, while
an AUDIO reset runs. -/
def State.announceLaw (s : State) : Prop :=
  ∀ z < 16, (s.zone z).lawful ∧
    ((s.zone z).current = .announce → (s.zone z).phase ≠ .fadeOut →
      ∃ l p, s.holder = some l ∧ (s.zone z).entered = some l ∧ (s.ov l).copy = some p ∧
        p.targets.getLsbD z = true) ∧
    (s.audioReset ≠ none → (s.zone z).current ≠ .announce ∧ (s.zone z).next = none)

/-- Every table has one entry for each subject: six areas, 25 channels, seven lines, 16 zones, 384 distances
and stored delays (R66, R72), 24 positions and 16 zones of the slot map (R27), and the counters of R181. -/
abbrev State.tablesWhole (s : State) : Prop :=
  s.areas.length = 6 ∧ s.channels.length = 25 ∧ s.lines.length = 7 ∧ s.zones.length = 16 ∧
    s.delay.distances.length = 384 ∧ s.delay.delays.length = 384 ∧ s.slotMap.positions.length = 24 ∧
    s.slotMap.zones.length = 16 ∧ s.status.clips.length = 25 ∧ s.status.zoneClips.length = 16 ∧
    s.status.busClips.length = 6

/-- An entry of the slot map names one of the 64 slots, or none. -/
abbrev slotListed (o : Option Nat) : Prop := ∀ n, o = some n → n < 64

/-- The slot map (R27): every entry is listed, and no two zones have the same output slot. -/
structure SlotMap.lawful (m : SlotMap) : Prop where
  positions : ∀ o ∈ m.positions, slotListed o
  zones : ∀ o ∈ m.zones, slotListed o
  announce : slotListed m.announce
  sense : slotListed m.sense
  distinct : ∀ y z, y < z → z < 16 → m.zones.getD y none ≠ none → m.zones.getD y none ≠ m.zones.getD z none

/-- The laws that the rules of single tables give: plans in range (R12), a rest count only IN_SERVICE (R7),
the slot map (R27), the dirty set rising and below 384 with its pointer (R66, R73, R74), the allocation (R81),
each write place inside its line, and an image load past its first pass only with an image that passed
(R189). -/
structure State.lawful (s : State) : Prop where
  plans : ∀ a < 6, planInRange a (s.area a).live = true ∧ planInRange a (s.area a).staged = true
  rests : ∀ a < 6, (s.area a).restCount ≤ 32 ∧ (0 < (s.area a).restCount → (s.area a).service = .inService)
  slots : s.slotMap.lawful
  dirty : s.delay.dirty.Pairwise (· < ·) ∧ (∀ i ∈ s.delay.dirty, i < 384) ∧ s.delay.pointer < 384
  allocation : (s.lines.map DelayLine.length).sum ≤ 2048
  writes : ∀ k < 7, lengthInRange (s.line k).length = true ∧
    (0 < (s.line k).length → (s.line k).writeAt < s.lineWords k)
  image : (s.save = none ∨ s.load = none) ∧
    ∀ l, s.load = some l → l.second = true → imageFailure s.image = none

/-- R20, R14: no position and no zone stands in two live plans, a join target is not itself joined, and a
CLEAN staged rank equals the live one. -/
structure State.plansApart (s : State) : Prop where
  members : ∀ a b q, a < b → b < 6 → (s.area a).live.hasMember q = true → (s.area b).live.hasMember q = false
  zones : ∀ a b z, a < b → b < 6 → (s.area a).live.hasZone z = true → (s.area b).live.hasZone z = false
  joins : ∀ a b, a < 6 → (s.area a).live.join = some b → (s.area b).live.join = none
  clean : ∀ a < 6, (s.area a).stagedState = .clean → (s.area a).staged = (s.area a).live

/-- R26, R191: while the fallback plan waits for the first block boundary, nothing that boundaries count is at its
last: no rest-fade count stands at 1, and neither a save nor a pass of a load is at its end. -/
structure State.fallbackAhead (s : State) : Prop where
  rests : s.fallbackDue = true → ∀ a < 6, (s.area a).restCount ≠ 1
  save : s.fallbackDue = true → (s.save.any fun v => v.timer.last) = false
  load : s.fallbackDue = true → (s.load.any fun l => l.timer.last) = false

/-! ## The lane (R168, R172, R173, R192) -/

/-- R192: an entry of the outgoing queue has a body of at most 116 bytes and a destination among the
addresses. -/
abbrev Entry.fits (e : Entry) : Prop := (e.body.map Field.bytes).sum ≤ 116 ∧ e.dest.toNat < 64

/-- Every entry of the outgoing queue fits a packet. -/
abbrev State.entriesFit (s : State) : Prop := ∀ e ∈ s.queue, e.fits

/-- R173: the frames that n bytes of one packet take on the lane. -/
def laneFrames (n : Nat) : Nat := (n + 3) / 4

/-- R172: the backlog of the lane in frames: the packets held, a packet that may yet be held, and what is
left of a local packet. -/
def Link.backlog (l : Link) : Nat :=
  (l.forward.map fun r => laneFrames r.bytes.length).sum +
    (match l.reception with
      | some r => if r.decision = .pending then 1 else 0
      | none => 0) +
    match l.sending with
      | .sendingLocal rest => laneFrames rest.length
      | .idle | .forwarding => 0

/-- R168, R172, R173: a sound lane. Only the last packet of the forward buffer may still grow, exactly while
the packet in reception is forwarded; only the packet being sent may have run out of bytes; a packet in
reception has bytes, fewer than four while its decision is PENDING; a local packet being sent has bytes left;
while LOST nothing is received or forwarded; and the backlog is at most 32 frames. -/
structure Link.laneLaw (l : Link) : Prop where
  closed : ∀ r ∈ l.forward.dropLast, r.closed = true
  last : ∀ r, l.forward.getLast? = some r →
    (r.closed = false ↔ ∃ p, l.reception = some p ∧ p.decision = .forward)
  growing : ∀ p, l.reception = some p → p.decision = .forward → l.forward ≠ []
  filled : ∀ r ∈ (if l.sending = .forwarding then l.forward.tail else l.forward), r.bytes ≠ []
  head : l.sending = .forwarding → ∃ r rs, l.forward = r :: rs ∧ (r.bytes = [] → r.closed = false)
  received : ∀ p, l.reception = some p → p.bytes ≠ [] ∧ (p.decision = .pending ↔ p.bytes.length < 4)
  local_ : ∀ rest, l.sending = .sendingLocal rest → rest ≠ []
  lost : l.chain = .lost → l.forward = [] ∧ l.reception = none ∧ l.sending ≠ .forwarding
  bounded : l.backlog ≤ 32

end Sys2Proof.Machine
end

