-- ==== Sys2Proof/Certificates/Slice0/Obligations.lean ====
section
/-! DEFINITION. The statements for the provers. Each says in its docstring which rules of spec/ it rests on. -/

open Sys2Proof Sys2Proof.Machine

/-! ## The machine as a whole -/

/-- A step carries out the command at the front of the queue, with the queue's rest, and every command ends in a
next state: the part has no stop (R177 answers every request, and an event changes state or does not). That an
empty queue leaves the part as it stands is the model's choice (log entry 2). -/
def Obligations.StepRunsTheFrontCommand : Prop :=
  (∀ (c : Instr) (rest : List Instr) (s : State), s.pending = c :: rest →
    step s = exec c { s with pending := rest }) ∧
  (∀ (c : Instr) (s : State), ∃ t, exec c s = .next t) ∧
  ∀ s : State, s.pending = [] → step s = .next s

/-- The values the spec gives at power-up, in the state right after reset: R1, R25, R40, R64, R80, R81,
R127, R139, R162, R176, R187, R196; and the laws of a sound state hold there (R20, R27, R120, R147, R172,
R186). The straps, the open FALLBACK pin and the erased image memory of `State.reset` are the model's choice
(log entry 3) and are not stated here. -/
def Obligations.ResetHoldsThePowerUpValues : Prop :=
  let s := State.reset
  s.link.counter = 0 ∧ s.link.chain = .lost ∧ s.link.badCount = 24 ∧
  s.link.history = List.replicate 64 false ∧ s.link.reception = none ∧ s.link.forward = [] ∧
  s.link.sending = .idle ∧ s.link.groups = 0 ∧ s.status.chain = true ∧
  (∀ a < 6, (s.area a).live = Plan.factory ∧ (s.area a).staged = Plan.factory ∧
    (s.area a).stagedState = .clean ∧ (s.area a).service = .dormant ∧ (s.area a).restCount = 0 ∧
    (s.area a).lead = ⟨0, .rest⟩ ∧ (s.area a).challenger = none ∧ (s.area a).nom = 1 ∧
    (s.area a).transition = none ∧ (s.area a).pendingRequest = false) ∧
  (∀ c < 25, (s.channel c).presence = .absent ∧ (s.channel c).history = List.replicate 32 false ∧
    (s.channel c).held = 0 ∧ (s.channel c).run = 0 ∧ (s.channel c).level = -480) ∧
  s.slotMap = SlotMap.factory ∧
  s.port.presence = .absent ∧ s.port.silent = 48 ∧ s.port.store = [] ∧ s.port.depth = 32 ∧
  s.delay.distances = List.replicate 384 none ∧ s.delay.requested = 150 ∧ s.delay.used = 150 ∧
  s.delay.speed = 34039 ∧ s.delay.delays = List.replicate 384 0 ∧ s.delay.dirty = [] ∧
  s.delay.pointer = 0 ∧
  s.lines.map DelayLine.length = [256, 256, 256, 256, 256, 256, 512] ∧
  (∀ k < 7, (s.line k).faulted = false) ∧ (∀ n < 98304, readCell s.cells n = MemWord.zero) ∧
  (∀ z < 16, (s.zone z).home = .off ∧ (s.zone z).current = .off ∧ (s.zone z).phase = .steady ∧
    (s.zone z).next = none ∧ (s.zone z).progress = 0 ∧ (s.zone z).length = 1536 ∧
    (s.zone z).entered = none ∧ (s.zone z).announceTap = 0 ∧ (s.zone z).dipWeight = 4096 ∧
    (s.zone z).duck = 0 ∧ (s.zone z).insert = false) ∧
  s.proving.level = -120 ∧ s.proving.assignment = none ∧ s.proving.state = .idle ∧
  s.proving.errors = 0 ∧
  (∀ l ∈ ovLines, (s.ov l).state = .idle ∧ (s.ov l).copy = none ∧ (s.ov l).countdown = .none ∧
    (s.ov l).latch = false ∧ (s.ov l).suppressed = false) ∧
  s.overrideEnable = false ∧ s.holder = none ∧ s.standby = false ∧ s.unitKey = 0 ∧ s.queue = [] ∧
  s.sequence = 0 ∧ s.kindMask = 0 ∧ s.suppress = 0 ∧ s.reporting = 0 ∧ s.outcome = .pending ∧
  Memory.wf s.cells = true ∧ s.queueBounded ∧ s.entriesFit ∧ s.busOwned ∧ s.evacHolds ∧ s.announceLaw ∧
  s.tablesWhole ∧ s.lawful ∧ s.plansApart ∧ s.fallbackAhead ∧ s.link.laneLaw

/-- Every step keeps the delay memory in its canonical form, so that equal contents are equal data: R81 to
R83, R104, R106, R107, R190 are all that write it. -/
def Obligations.DelayMemoryStaysCanonical : Prop :=
  ∀ s t : State, Memory.wf s.cells = true → step s = .next t → Memory.wf t.cells = true

/-- Every step keeps the outgoing queue within eight entries and leaves no notice unsent (R177 step 2,
R184 step 4, R186); and where tables and plans are lawful every entry stays one that fits a packet (R192). -/
def Obligations.OutgoingQueueStaysBounded : Prop :=
  ∀ s t : State, s.queueBounded → step s = .next t →
    t.queueBounded ∧ (s.tablesWhole → s.lawful → s.entriesFit → t.entriesFit)

/-- Every step keeps the law that an override is ACTIVE or ENDING, with a running copy, exactly while it
holds the announce bus, so that at most one does (R146, R147); that EVAC holds the bus while its latch is set
(R147); and that a zone in ANNOUNCE which is not fading out belongs to the target set of the override that
holds the bus, as its entered holder (R120). The last is not stated of the rows FADE_OUT_END and SETTLE_END,
which take the mode wanted at the last boundary ahead of the controller's update (log entry 6). -/
def Obligations.OneOverrideHoldsTheBus : Prop :=
  ∀ s t : State, step s = .next t →
    (s.busOwned → t.busOwned) ∧ (s.evacHolds → t.evacHolds) ∧
    (s.busOwned → s.announceLaw →
      (∀ z, s.pending.head? ≠ some (.fadeOutEnd z) ∧ s.pending.head? ≠ some (.settleEnd z)) → t.announceLaw)

/-- Every step keeps each table at its size: no command makes an area, channel, line, zone, distance, stored
delay, slot map entry or counter appear or vanish (R7, R27, R66, R72, R81, R108, R181); and keeps the laws of
the tables: plans in range (R12), a rest-fade count only IN_SERVICE (R7), output slots distinct (R27), the
dirty set rising without repeats and below 384 (R73), the pointer with it (R74), line lengths that sum to at
most 2,048 with each write place inside its line (R81), and an image load past its first pass only with an
image that passed (R189). -/
def Obligations.TablesKeepTheirSizes : Prop :=
  ∀ s t : State, step s = .next t →
    (s.tablesWhole → t.tablesWhole) ∧ (s.tablesWhole → s.lawful → t.lawful)

/-- R20, R14: every step keeps the live plans apart: no position and no zone stands in two of them, no join
target is itself joined, and a CLEAN staged rank equals the live one. Where the fallback plan still waits for
the first boundary, it must not meet a plan taken before it (R191 installs it without validation), and neither a
rest-fade count, a save nor a pass of a load is at its end there, which every step keeps so (R26, R191). -/
def Obligations.LivePlansStayApart : Prop :=
  (∀ s t : State, s.fallbackAhead → step s = .next t → t.fallbackAhead) ∧
  ∀ s t : State, s.tablesWhole → s.lawful → s.plansApart → s.fallbackAhead →
    (s.fallbackDue = true → s.validate 0 Plan.fallback = none) → step s = .next t → t.plansApart

/-- R172: every step keeps the lane sound, its backlog within 32 frames of 4 bytes, where the queue's entries
fit packets; and in a sound lane the forward buffer holds at most 128 bytes. -/
def Obligations.ForwardBufferStaysBounded : Prop :=
  (∀ s t : State, s.entriesFit → s.link.laneLaw → step s = .next t → t.link.laneLaw) ∧
  ∀ l : Link, l.laneLaw → fillOf l.forward ≤ 128

/-! ## Arithmetic -/

/-- R3: the integer gain law is the real one for every gain above -480 up to +96 qdB; -480 is silence and 0
leaves a sample as it is. R32: the block level found by comparing 80th powers is the floor of the real
logarithm, limited to -480, for every magnitude a sample can have. -/
def Obligations.GainLawAndLevelAreTheRealOnes : Prop :=
  (∀ q : Int, -480 < q → q ≤ 96 →
    (gainMul q : Int) = ⌊(2 : ℝ) ^ 20 * (10 : ℝ) ^ ((q : ℝ) / 80) + 1 / 2⌋) ∧
  gainMul (-480) = 0 ∧
  (∀ q x : Int, applyGain q x = ⌊(x : ℚ) * (gainMul q : ℚ) / 2 ^ 20 + 1 / 2⌋) ∧
  (∀ x : Int, applyGain (-480) x = 0) ∧ (∀ x : Int, applyGain 0 x = x) ∧
  blockLevel 0 = -480 ∧
  ∀ p : Nat, 0 < p → p ≤ 8388608 →
    blockLevel p = max (-480) ⌊80 * Real.logb 10 ((p : ℝ) / 8388607)⌋

/-- R49, R50: the open-microphone count lies from 1 to 24, counting the present SPEECH members that are OPEN
or in HOLD and the present ensemble once; and every target gain is attenuated by round(40 log10 NOM). -/
def Obligations.OpenMicrophonesShareTheGain : Prop :=
  (∀ (present : Nat → Bool) (rs : List MemberRec), rs.length ≤ 24 →
    1 ≤ nomOf present rs ∧ nomOf present rs ≤ 24 ∧
    nomOf present rs = max 1
      ((rs.countP fun r => r.kind == .speech && present r.position &&
          (r.gate == .opened || r.gate == .hold)) +
        if ∃ r ∈ rs, r.kind = .ensemble ∧ present r.position = true then 1 else 0)) ∧
  (∀ n : Nat, 1 ≤ n → n ≤ 24 → attenuation n = ⌊40 * Real.logb 10 (n : ℝ) + 1 / 2⌋) ∧
  ∀ (r : MemberRec) (off : Int) (n : Nat),
    r.target off n = max (-480) (min 96
      (r.trim - (if r.kind = .speech ∧ r.gate = .closed then off else 0) - attenuation n))

/-- R70, R71: the speed of sound is rounded from the used temperature, ties upward, and a pair's delay from
its distance and that speed; both lie in the ranges the rules give, and the delay computer uses them. -/
def Obligations.DelayFromDistanceAndTemperature : Prop :=
  (∀ t : Int, speedOfSound t = 33130 + ⌊(606 * t : ℚ) / 100 + 1 / 2⌋) ∧
  (∀ t : Int, -100 ≤ t → t ≤ 400 → 32524 ≤ speedOfSound t ∧ speedOfSound t ≤ 35554) ∧
  ([-100, -25, -1, 0, 25, 120, 150, 250, 400].map speedOfSound =
    [32524, 32979, 33124, 33130, 33282, 33857, 34039, 34645, 35554]) ∧
  (∀ c : Int, geometricDelay none c = 0) ∧
  (∀ (s : Nat) (c : Int), 0 < c →
    (geometricDelay (some s) c : Int) = ⌊((s : ℚ) * 48000) / (c : ℚ) + 1 / 2⌋) ∧
  (∀ (s : Nat) (c : Int), s ≤ 20000 → 32524 ≤ c → geometricDelay (some s) c ≤ 29517) ∧
  (∀ d : DelayComputer, d.speed = speedOfSound d.used) ∧
  ∀ (d : DelayComputer) (i : Nat), i < d.delays.length →
    (d.recompute i).delays.getD i 0 = geometricDelay (d.distances.getD i none) (speedOfSound d.used)

/-- R5, R90, R92: a weighted pair of samples is the first at weight 0 and the second at 4,096 and never
leaves the range between them; a crossfade's weight rises to 4,096 at its last sample; a dip's weight falls
to 0 at the midpoint and returns to 4,096. -/
def Obligations.WeightsMoveFromOldToNew : Prop :=
  (∀ a b : Int, |a| ≤ 8388607 → |b| ≤ 8388607 → weightedPair a b 0 = a ∧ weightedPair a b 4096 = b) ∧
  (∀ (a b : Int) (w : Nat), |a| ≤ 8388607 → |b| ≤ 8388607 → w ≤ 4096 →
    min a b ≤ weightedPair a b w ∧ weightedPair a b w ≤ max a b) ∧
  (∀ m : Nat, 768 ≤ m → m ≤ 12288 → rampWeight (m - 1) m = 4096 ∧
    ∀ k : Nat, k + 1 < m → rampWeight k m ≤ rampWeight (k + 1) m ∧ rampWeight k m ≤ 4096) ∧
  dipRamp 0 = 4091 ∧ dipRamp 767 = 0 ∧ dipRamp 768 = 5 ∧ dipRamp 1535 = 4096 ∧
  (∀ k < 767, dipRamp (k + 1) ≤ dipRamp k) ∧
  ∀ k : Nat, 767 ≤ k → k < 1535 → dipRamp k ≤ dipRamp (k + 1)

/-! ## The delay lines and the block boundary -/

/-- R81, R82: a line is a ring. After a sample is written into line Lk, a read at tap 0 finds it, a read at
tap t + 1 finds what a read at tap t found before, and every other line reads as before. -/
def Obligations.RingReadsBackWhatWasWritten : Prop :=
  ∀ (s : State) (k : Nat) (x : Int), Memory.wf s.cells = true → s.lines.length = 7 → k < 7 →
    0 < (s.line k).length → (s.line k).writeAt < s.lineWords k →
    (s.writeLine k x).lineWord k 0 = ⟨x, false⟩ ∧
    (∀ t : Nat, t + 1 < s.lineWords k → (s.writeLine k x).lineWord k (t + 1) = s.lineWord k t) ∧
    ∀ j t : Nat, j < 7 → j ≠ k → t < s.lineWords j → (s.writeLine k x).lineWord j t = s.lineWord j t

/-- R45, R48: in a mixer's update every present member's S follows its level at once upward and by the
release rate downward (an absent member's is -480, R44); the gate of each present SPEECH member moves as the
open condition says, which reads its new S, its floor as this update leaves it (R46) and the speech top (R47);
every other gate is as it was, an absent member's CLOSED. R51: each present member's target T is its trim less the
attenuation of NOM, and less the off attenuation where its gate is CLOSED; the applied gain G of a new record
becomes T, and any other moves toward T by at most 8 qdB up and 2 qdB down. A take that shortens the gate hold
shortens the counts. -/
def Obligations.LevelsAndGatesFollowTheirRules : Prop :=
  (∀ (plan : Plan) (level : Nat → Int) (present : Nat → Bool) (rs : List MemberRec),
    let m := mixSteps plan level present [] rs
    m.records.length = rs.length ∧
    (∀ r ∈ m.records, r.kind = .speech → present r.position = true → r.s ≤ m.top) ∧
    (m.top = -480 ∨ ∃ r ∈ m.records, r.kind = .speech ∧ present r.position = true ∧ m.top = r.s) ∧
    ∀ (i : Nat) (r u : MemberRec), rs[i]? = some r → m.records[i]? = some u →
      let speech := r.kind = .speech ∧ present r.position = true
      let top := m.top
      u.position = r.position ∧ u.kind = r.kind ∧ u.trim = r.trim ∧
      (present r.position = false → u.s = -480 ∧ u.gate = .closed ∧ u.hold = 0 ∧ u.f = r.f ∧ u.rise = r.rise) ∧
      (present r.position = true → u.s =
        if r.s - plan.releaseRate ≤ level r.position then level r.position
        else max (-480) (r.s - plan.releaseRate)) ∧
      (present r.position = true → r.kind = .ensemble →
        u.gate = r.gate ∧ u.hold = r.hold ∧ u.f = r.f ∧ u.rise = r.rise) ∧
      (speech → u.s < r.f → u.f = max (-480) (min (-40) u.s) ∧ u.rise = 0) ∧
      (speech → r.f ≤ u.s → r.gate = .closed → r.rise < 249 → u.f = r.f ∧ u.rise = r.rise + 1) ∧
      (speech → r.f ≤ u.s → r.gate = .closed → 249 ≤ r.rise → u.f = min (-40) (r.f + 1) ∧ u.rise = 0) ∧
      (speech → r.f ≤ u.s → r.gate ≠ .closed → u.f = r.f ∧ u.rise = r.rise) ∧
      (speech →
        let opens := u.f + plan.openMargin ≤ u.s ∧ top - plan.window ≤ u.s
        (r.gate = .closed → u.hold = r.hold ∧ (opens → u.gate = .opened) ∧ (¬ opens → u.gate = .closed)) ∧
        (r.gate = .opened → (opens → u.gate = .opened ∧ u.hold = r.hold) ∧
          (¬ opens → u.gate = .hold ∧ u.hold = plan.gateHold.toNat)) ∧
        (r.gate = .hold → (opens → u.gate = .opened ∧ u.hold = 0) ∧
          (¬ opens → 1 < r.hold → u.gate = .hold ∧ u.hold = r.hold - 1) ∧
          (¬ opens → r.hold ≤ 1 → u.gate = .closed ∧ u.hold = 0))) ∧
      u.isNew = false ∧ (present r.position = false → u.t = -480 ∧ u.g = -480) ∧
      (present r.position = true →
        u.t = max (-480) (min 96 (r.trim -
          (if r.kind = .speech ∧ u.gate = .closed then (plan.offAttenuation : Int) else 0) -
          attenuation m.nom)) ∧
        (r.isNew = true → u.g = u.t) ∧
        (r.isNew = false → (r.g < u.t → u.g = min u.t (r.g + 8)) ∧ (u.t < r.g → u.g = max u.t (r.g - 2)) ∧
          (r.g = u.t → u.g = r.g)))) ∧
  (∀ rate level s : Int, 1 ≤ rate → rate ≤ 32 → -480 ≤ level → level ≤ 0 → -480 ≤ s → s ≤ 0 →
    -480 ≤ smooth rate level s ∧ smooth rate level s ≤ 0) ∧
  ∀ a : Area, a.limitHolds.records = a.records.map fun m => { m with hold := min m.hold a.live.gateHold.toNat }

/-- R60: at every block boundary each zone's applied duck moves by at most 2 qdB toward the duck target set
at that boundary, and stays from 0 to 120 qdB. -/
def Obligations.DuckFollowsItsTarget : Prop :=
  ∀ s : State, s.powered = true → s.link.inBlock = 48 → s.zones.length = 16 →
    ∃ t, exec .blockBoundary s = .next t ∧ ∀ z < 16,
      let old := (s.zone z).duck
      let target := (t.zone z).duckTarget
      (t.zone z).duck =
        (if old < target then min target (old + 2) else if target < old then max target (old - 2) else old) ∧
      (0 ≤ old → old ≤ 120 → 0 ≤ target → target ≤ 120 →
        0 ≤ (t.zone z).duck ∧ (t.zone z).duck ≤ 120)

/-- R10, R14, R21: at every block boundary the rest-fade count of every area that has one decreases by 1, and
an area whose count so reaches 0 becomes DORMANT (neither an image load nor the fallback may be waking areas).
REST_FADE_END takes that end by itself: it makes the area DORMANT, clears its pending request and stops its
mixer; a take it holds goes live if it passes validation, and fails otherwise. The lead and the other areas'
service states and plans keep their values. -/
def Obligations.RestFadeRunsOut : Prop :=
  (∀ s : State, s.powered = true → s.link.inBlock = 48 → s.areas.length = 6 → s.load = none →
    s.fallbackDue = false →
    ∃ t, exec .blockBoundary s = .next t ∧ ∀ a < 6,
      (t.area a).restCount = (s.area a).restCount - 1 ∧
      ((s.area a).restCount = 1 → (t.area a).service = .dormant)) ∧
  ∀ (s : State) (a : Nat), s.quietAtBoundary → s.areas.length = 6 → a < 6 → (s.area a).restCount = 1 →
    ∃ t, exec (.restFadeEnd a) s = .next t ∧
      (t.area a).service = .dormant ∧ (t.area a).restCount = 0 ∧ (t.area a).pendingRequest = false ∧
      (t.area a).records = [] ∧ (t.area a).nom = 1 ∧ (t.area a).lead = (s.area a).lead ∧
      ((s.area a).stagedState ≠ .held → (t.area a).live = (s.area a).live ∧
        (t.area a).staged = (s.area a).staged ∧ (t.area a).stagedState = (s.area a).stagedState) ∧
      ((s.area a).stagedState = .held → s.validate a (s.area a).staged = none →
        (t.area a).live = (s.area a).staged ∧ (t.area a).staged = (s.area a).staged ∧
          (t.area a).stagedState = .clean ∧ t.status.takeApplied.getLsbD a = true) ∧
      ((s.area a).stagedState = .held → s.validate a (s.area a).staged ≠ none →
        (t.area a).live = (s.area a).live ∧ (t.area a).staged = (s.area a).staged ∧
          (t.area a).stagedState = .edited ∧ t.status.takeFailed.getLsbD a = true) ∧
      ∀ b < 6, b ≠ a → (t.area b).service = (s.area b).service ∧ (t.area b).live = (s.area b).live ∧
        (t.area b).restCount = (s.area b).restCount

/-- R74: every block boundary makes one walk step: of the dirty indexes it takes the first four from the
pointer on, past 383 to 0, recomputes their delays, takes them out of the set and leaves the pointer behind
the last; with an empty set it does nothing. The boundary where an image is installed is left out. -/
def Obligations.BoundaryMakesOneWalkStep : Prop :=
  ∀ s : State, s.powered = true → s.link.inBlock = 48 →
    (s.load.any fun l => l.second && l.timer.last) = false →
    s.delay.delays.length = 384 → s.delay.dirty.Nodup → (∀ i ∈ s.delay.dirty, i < 384) →
    ∃ t, exec .blockBoundary s = .next t ∧
      let d := s.delay
      let taken := ((d.dirty.filter fun i => decide (d.pointer ≤ i)) ++
        d.dirty.filter fun i => decide (i < d.pointer)).take 4
      (d.dirty = [] → t.delay = d) ∧
      (∀ l ∈ taken.getLast?, t.delay.pointer = (l + 1) % 384) ∧
      t.delay.dirty = d.dirty.filter (fun i => decide (i ∉ taken)) ∧
      (∀ i < 384, t.delay.delays.getD i 0 =
        if i ∈ taken then geometricDelay (d.distances.getD i none) (speedOfSound d.used)
        else d.delays.getD i 0) ∧
      t.delay.distances = d.distances ∧ t.delay.requested = d.requested ∧ t.delay.used = d.used

/-- R32, R33, R34: at every block boundary each slot monitor drops the oldest entry of its history and appends
whether all 48 raw samples of the block were valid; a PRESENT one turns ABSENT when its last 24 entries are
all invalid, an ABSENT one PRESENT when at least 28 entries are valid and no three in a row are not; and the
level of the block is taken over, but in the blocks of an AUDIO reset. Each turn, and each turn of the local
port since the boundary before, sets the monitor's flag and posts PRESENCE with the new state. That the turns
of one boundary are posted in rising channel order, the port's last, is the model's choice (log entry 7). -/
def Obligations.PresenceIsDecidedAtTheBoundary : Prop :=
  (∀ s : State, s.quietAtBoundary → s.channels.length = 25 → s.load = none → s.fallbackDue = false →
    ∃ t, exec .blockBoundary s = .next t ∧ t.port = { s.port with turns := [] } ∧
      t.status.presence.getLsbD 25 = (s.status.presence.getLsbD 25 || !s.port.turns.isEmpty) ∧
      ∀ c < 25,
        let r := s.channel c
        let h := r.history.drop 1 ++ [decide (r.valid = 48)]
        let gap : Prop := ∃ n, h[n]? = some false ∧ h[n + 1]? = some false ∧ h[n + 2]? = some false
        (t.channel c).history = h ∧
        (r.presence = .present → ((t.channel c).presence = .absent ↔ ∀ b ∈ h.drop 8, b = false)) ∧
        (r.presence = .absent → ((t.channel c).presence = .present ↔ 28 ≤ h.count true ∧ ¬ gap)) ∧
        (t.channel c).level = (if s.audioReset = none ∧ s.early.contains .resetEnd = false
          then blockLevel r.peak else r.level) ∧
        t.channel c = { r with
          history := h, presence := (t.channel c).presence, level := (t.channel c).level, valid := 0,
          peak := 0 } ∧
        t.status.presence.getLsbD c =
          (s.status.presence.getLsbD c || decide ((t.channel c).presence ≠ r.presence))) ∧
  ∀ s : State, s.channels.length = 25 →
    let after := s.closeChannels.postPortTurns
    let notice (c : Nat) (p : Presence) : Post :=
      ⟨.inputs, .presence, c, [f2 (if p = .present then 0 else 1)], s.link.counter⟩
    after.posts = s.posts ++
      (((List.range 25).filter fun c => decide ((after.channel c).presence ≠ (s.channel c).presence)).map
        fun c => notice c (after.channel c).presence) ++ s.port.turns.map (notice 25)

/-- R142 to R150: a boundary samples the five lines, sets the EVAC latch and the EDGE latches, steps the
holder's countdown and arbitrates the bus. The highest-priority requesting line takes it from nobody, from an
ENDING holder or from an ACTIVE one of lower priority: it is ACTIVE with a fresh copy of its programme, an O
line's latch is cleared, and standby ends. A line without the bus is REQUESTING while it requests. An ACTIVE
holder whose countdown runs out turns ENDING; an ENDING one is released once no zone is in ANNOUNCE, the switch
that falls at this boundary counted or not as R150 leaves free. No turn of a source's presence may fall at the
boundary (R152). The notices of a start and of a loss are stated of the two operations that post them. That
OVERRIDE_STARTED carries 255 where no override was displaced (R148 says none) is the model's choice (log entry 11),
and that the contacts of the last frame are what the boundary samples is its reading (log entry 8); that a holder
which loses the bus posts by the trigger of its copy, and is then REQUESTING or not by that of its stored programme,
is its choice (log entry 55). -/
def Obligations.RequestsAreArbitratedAtTheBoundary : Prop :=
  (∀ s : State, s.quietAtBoundary → s.busOwned → s.early = [] → s.load = none → s.port.turns = [] →
    s.presentAhead 24 = decide ((s.channel 24).presence = .present) →
    let contact := contactOf s.contacts
    let latch (l : OvLine) : Bool := (s.ov l).latch || (if l = .evac then contact l else
      contact l && !(s.ov l).sample && s.overrideEnable && (s.ov l).programme.trigger == .edge &&
        (s.ov l).programme.targets != 0)
    let stands (l : OvLine) : Bool := contact l && s.overrideEnable &&
      (s.ov l).programme.trigger == .level && (s.ov l).programme.targets != 0 && !(s.ov l).suppressed
    let asks (l : OvLine) (trigger : Trigger) : Bool :=
      if l = .evac ∨ trigger = .edge then latch l else stands l
    let expires (l : OvLine) : Bool := (s.ov l).state == .active && l != .evac &&
      (match (s.ov l).countdown with
        | .running v => decide (v ≤ 1)
        | _ => false) && ((s.ov l).trigger == .edge || !contact l)
    let rivals : List OvLine := match s.holder with
      | none => ovLines
      | some h => if (s.ov h).state = .ending ∨ expires h = true then ovLines
          else ovLines.takeWhile fun l => l != h
    let taker := rivals.find? fun l => asks l (s.ov l).trigger
    let source (p : Programme) : Presence := match p.source with
      | .localPort => s.port.presence
      | .slot => (s.channel 24).presence
    ∃ t, exec .blockBoundary s = .next t ∧
      (∀ l, (t.ov l).programme = (s.ov l).programme ∧ (t.ov l).sample = contact l ∧
        (t.ov l).previous = (s.ov l).sample ∧
        (t.ov l).suppressed = ((s.ov l).suppressed && (contact l || l == .evac)) ∧
        (t.ov l).latch = (latch l && (l == .evac || taker != some l))) ∧
      (∀ w, taker = some w → t.holder = some w ∧ t.standby = false ∧
        let p := (s.ov w).programme
        (t.ov w).state = .active ∧
        (t.ov w).copy = some (if w = .evac then { p with targets := 0xFFFF#16 } else p) ∧
        (t.ov w).durationInForce = p.duration.toNat ∧ (t.ov w).tailInForce = p.tail.toNat ∧
        (t.ov w).countdown =
          if w = .evac ∨ p.trigger = .level then .none
          else if p.countStart = .atSourceEnd ∧ source p = .present then .stopped
          else .running (p.duration.toNat * 100)) ∧
      (taker = none → t.standby = s.standby ∧ (s.holder = none → t.holder = none)) ∧
      (∀ l, taker ≠ some l → s.holder ≠ some l ∨ taker ≠ none → (t.ov l).copy = none ∧
        (t.ov l).state = if asks l (s.ov l).programme.trigger = true then .requesting else .idle) ∧
      ∀ h, s.holder = some h → taker = none →
        let o := s.ov h
        (expires h = true → t.holder = some h ∧ (t.ov h).state = .ending ∧ (t.ov h).copy = o.copy ∧
          (t.ov h).countdown = .none) ∧
        (o.state = .active → expires h = false → t.holder = some h ∧ (t.ov h).state = .active ∧
          (t.ov h).copy = o.copy ∧ (t.ov h).countdown =
            if h = .evac then o.countdown
            else if o.trigger = .level ∧ contact h = true then .none
            else match o.countdown with
              | .running v => .running (v - 1)
              | .stopped => .stopped
              | .none => if o.trigger = .level then .running (o.tailInForce * 100) else .none) ∧
        (o.state = .ending →
          (t.holder = some h ∧ (∃ r ∈ s.zones, r.current = .announce) ∧ (t.ov h).state = .ending ∧
            (t.ov h).copy = o.copy) ∨
          (t.holder = none ∧ (t.ov h).state = .idle ∧ (t.ov h).copy = none ∧
            ((∀ r ∈ s.zones, r.current ≠ .announce) ∨ ∀ r ∈ t.zones, r.current ≠ .announce))) ∧
        (o.state = .ending → (∀ r ∈ s.zones, r.current ≠ .announce) → t.holder = none)) ∧
  (∀ (s : State) (l : OvLine) (displaced : Option OvLine) (view : Source → Presence),
    (s.startOverride l displaced view).posts = s.posts ++ [if l = .evac
      then ⟨.overrides, .evacState, 0, [f2 2], s.link.counter⟩
      else ⟨.overrides, .overrideStarted, l.code, [f2 ((displaced.map OvLine.code).getD 255)],
        s.link.counter⟩]) ∧
  ∀ (s : State) (old taker : OvLine), (s.loseBus old taker).posts = s.posts ++
    if (s.ov old).state = .ending then [⟨.overrides, .overrideEnded, old.code, [f2 0], s.link.counter⟩]
    else if (s.ov old).trigger = .level ∧ s.requesting old = true then []
    else [⟨.overrides, .overrideDiscarded, old.code, [f2 taker.code], s.link.counter⟩]

/-- R111, R114 to R118: at every block boundary each zone derives its wanted mode: OFF in standby, ANNOUNCE in
the target set of the ACTIVE holder, QUIET while its line is faulted or under flush, its home mode otherwise.
Where that differs from its mode, or a re-entry is due (R120), a sounding zone fades out from the progress it
has, rescaled to the length R117 gives, QUIET switches at once or settles for 16 blocks toward OFF, and OFF
settles for 64; a change in flight is altered by R116; LIVE follows its goal by R118. A fade that stands at 0
ends at the boundary (R115). A change called back from its entering settle fades in over the short length where it
was short, having left ANNOUNCE entered under EVAC, or where it now heads for ANNOUNCE under EVAC. The standby is taken as it stands, but where a start ends one that the zones have
not taken yet, either way (R159). The table of changes is stated where no AUDIO reset, image load, fallback,
rest-fade end or dip midpoint falls at the boundary. -/
def Obligations.ZonesTakeTheirWantedModes : Prop :=
  ∀ s : State, s.quietAtBoundary → s.zones.length = 16 →
    ∃ t, exec .blockBoundary s = .next t ∧
      (t.standbyTaken = t.standby ∨ (s.standby = true ∧ s.standbyTaken = false ∧ t.standby = false)) ∧
      (∀ z < 16,
        let w := t.zone z
        let claimed : Bool := t.holder.any fun l => (t.ov l).state == .active &&
          (t.ov l).copy.any fun p => p.targets.getLsbD z
        let down : Bool := (t.steeringArea z).any fun b => (t.line b).faulted || t.flush.any fun f => f.1 == b
        (t.standbyTaken = true → w.wanted = .off ∧ w.wantedRow = 1) ∧
        (t.standbyTaken = false → claimed = true → w.wanted = .announce ∧ w.wantedRow = 2) ∧
        (t.standbyTaken = false → claimed = false → down = true → w.wanted = .quiet ∧ w.wantedRow = 3) ∧
        (t.standbyTaken = false → claimed = false → down = false → w.wanted = w.home ∧ w.wantedRow = 4)) ∧
      (s.audioReset = none → s.load = none → s.fallbackDue = false →
        (∀ a < 6, (s.area a).restCount ≠ 1 ∧ (s.area a).transition.any Transition.midpointDue = false) →
        ∀ z < 16, (s.zone z).lawful → s.early.contains (.settle z) = false →
          let r := s.zone z
          let w := t.zone z
          let y := w.wanted
          let j := if r.current = .live ∧ t.pathAvailable z = false then 0 else r.progress
          let short : Bool := (r.current == .announce && r.entered == some .evac) ||
            (y == .announce && t.holder == some .evac)
          let m := if short = true then 384 else 1536
          let k := if r.length = m then j else j * m / r.length
          let leaves := y ≠ r.current ∨ (r.current = .announce ∧ r.entered ≠ t.holder)
          let sounds := r.current = .live ∨ r.current = .test ∨ r.current = .announce
          let switched (x : Mode) : Prop := w.current = x ∧ w.next = none ∧ w.progress = 0 ∧
            (x = .announce → w.entered = t.holder) ∧ w.phase =
              if x = .test ∨ x = .announce ∨ (x = .live ∧ t.sounding z = true) then .fadeIn else .steady
          let settles (mode : SettleKind) (n : Nat) (x : Mode) : Prop := w.current = .quiet ∧
            w.phase = .settle ∧ w.settleKind = mode ∧ w.settleCount = n ∧ w.next = some x
          (sounds → leaves →
            (0 < k → w.current = r.current ∧ w.phase = .fadeOut ∧ w.next = some y ∧ w.progress = k ∧
              w.length = m ∧ w.short = short) ∧
            (k = 0 → y = .off → settles .enteringOff 16 .off) ∧ (k = 0 → y ≠ .off → switched y)) ∧
          (sounds → ¬ leaves → r.phase = .fadeOut → r.next ≠ none → w.current = r.current ∧ w.next = none ∧
            w.length = m ∧ w.progress = k ∧ w.phase = if m ≤ k then .steady else .fadeIn) ∧
          (r.current = .quiet → r.phase ≠ .settle → r.next = none →
            (y = .off → settles .enteringOff 16 .off) ∧ (y ≠ .off → y ≠ .quiet → switched y)) ∧
          (r.current = .off → r.next = none → y ≠ .off → settles .leavingOff 64 y) ∧
          (r.phase = .settle → r.settleKind = .leavingOff →
            (1 < r.settleCount → settles .leavingOff (r.settleCount - 1) y) ∧
            (r.settleCount ≤ 1 → y = .off → w.current = .off ∧ w.phase = .steady ∧ w.next = none) ∧
            (r.settleCount ≤ 1 → y ≠ .off → switched y)) ∧
          (r.phase = .settle → r.settleKind = .enteringOff →
            (y = .off → 1 < r.settleCount → settles .enteringOff (r.settleCount - 1) .off) ∧
            (y = .off → r.settleCount ≤ 1 → w.current = .off ∧ w.phase = .steady ∧ w.next = none) ∧
            (y = .quiet → w.current = .quiet ∧ w.phase = .steady ∧ w.next = none) ∧
            (y ≠ .off → y ≠ .quiet → switched y ∧ (w.phase = .fadeIn → w.length =
              if r.short = true ∨ (y = .announce ∧ t.holder = some .evac) then 384 else 1536))) ∧
          (r.current = .live → y = .live → r.next = none →
            w.current = .live ∧ w.next = none ∧ w.phase =
              (if t.sounding z = true then (if j < r.length then .fadeIn else .steady)
              else if j = 0 then .steady else .fadeOut) ∧
            (t.sounding z = true → j < r.length → r.phase ≠ .fadeIn →
              w.length = 1536 ∧ w.progress = if r.length = 1536 then j else j * 1536 / r.length)))

/-! ## Frames and the link -/

/-- R1, R163: every frame, whether timed from chain-in or locally, advances the frame counter by one,
wrapping after 4,294,967,295, and blocks are counted by frames: the frame that follows the 48th of a block
is the first of the next. A block boundary leaves the counter as it is and begins a block. That the row
BLOCK_BOUNDARY anywhere but after the 48th frame changes nothing is the model's choice (log entry 6), as is the
counter's value between frames (log entry 31). -/
def Obligations.FrameAdvancesTheCounter : Prop :=
  (∀ (s : State) (i : FrameInput), s.powered = true → s.link.counter < 4294967296 →
    ∀ c ∈ [Instr.frame i, Instr.localFrame i], ∃ t, exec c s = .next t ∧
      t.link.counter = (if s.link.counter = 4294967295 then 0 else s.link.counter + 1) ∧
      t.link.stamp = s.link.counter ∧
      t.link.inBlock = if s.link.inBlock = 48 then 1 else s.link.inBlock + 1) ∧
  ∀ s : State, s.powered = true → ∃ t, exec .blockBoundary s = .next t ∧
    t.link.counter = s.link.counter ∧ (s.link.inBlock = 48 → t.link.inBlock = 0) ∧
    (s.link.inBlock ≠ 48 → t = s)

/-- R29, R30, R163 to R166: every frame is sent with a check computed over it and judged: a good period ends the
run of bad ones and enters the history. A slot that a zone writes has its other six status bits 0. While
TRACKING any other slot goes out as it arrived, less its valid mark when the frame is bad; in holdover it is
sample 0 with all status bits 0, and nothing arriving in the lane is received. In holdover, and when the frame
is bad, every channel has an invalid raw sample, concealed by the held sample for four frames and by 0 after.
That the rows FRAME and LOCAL_FRAME mean the same in either chain-in state, which changes by rows of its own, is
the model's reading (log entries 5, 8). In a period with no frame (log entry 30) the slots that no zone writes
have valid mark 0, and their contents are free. -/
def Obligations.FramesPassOnWhatArrives : Prop :=
  ∀ (s : State) (i : FrameInput), s.quiet → s.link.inBlock < 48 → s.channels.length = 25 →
    (∀ f ∈ i.arriving, f.slots.length = 64) →
    ∀ c ∈ [Instr.frame i, Instr.localFrame i], ∃ t out, exec c s = .next t ∧ t.link.chainOut = some out ∧
      let good := i.arriving.any ChainFrame.good
      out.slots.length = 64 ∧ out.check = crc8 (checkedBytes out.slots out.laneControl out.laneBytes) ∧
      t.link.chain = s.link.chain ∧
      t.link.badCount = (if good then 0 else min 24 (s.link.badCount + 1)) ∧
      t.link.history = s.link.history.drop 1 ++ [good] ∧
      (∀ n < 64, s.slotMap.writes n → ∃ x, out.slots[n]? = some x ∧ x.status &&& 0x3F#8 = 0#8) ∧
      (∀ n < 64, ¬ s.slotMap.writes n →
        (s.link.chain = .lost → out.slots[n]? = some ⟨0, 0⟩) ∧
        (s.link.chain = .tracking → ∀ f, i.arriving = some f → ∀ x, f.slots[n]? = some x →
          out.slots[n]? = some (if f.good = true then x else { x with status := x.status &&& 0x7F#8 })) ∧
        (s.link.chain = .tracking → i.arriving = none →
          ∃ x, out.slots[n]? = some x ∧ x.status.getLsbD 7 = false)) ∧
      (s.link.chain = .lost → t.link.reception = s.link.reception) ∧
      (s.link.chain = .lost ∨ good = false → ∀ n < 25,
        (t.channel n).run = min 5 ((s.channel n).run + 1) ∧ (t.channel n).held = (s.channel n).held ∧
        (t.channel n).concealed = (if (s.channel n).run < 4 then (s.channel n).held else 0) ∧
        (t.channel n).presence = (s.channel n).presence ∧
        (t.channel n).history = (s.channel n).history ∧ (t.channel n).level = (s.channel n).level)

/-- R29 to R31, R36, R53, R54, R82, R157: in a frame that completes no packet and upsets no word, every channel
takes its raw sample, which is valid only from a good frame while TRACKING and only with the slot's valid mark;
an invalid one is concealed by the held sample for four frames and by 0 after; a source-clip mark on a valid
one counts. The local port delivers the head of its store, or its last sample again when two words or fewer
stand in it, which is an underflow slip. Each line that is neither under a clear, an AUDIO reset nor its own
flush takes one sample, in front of those it has: L0 to L5 that of the area's bus, the saturated area gain of
the sum of the members' products, or 0 where the area's mixer does not run; L6 that of the announce bus. A bus
sample that saturation changed counts. -/
def Obligations.FramesFeedTheLines : Prop :=
  ∀ (s : State) (i : FrameInput), s.quiet → s.link.inBlock < 48 → s.tablesWhole → s.lawful →
    Memory.wf s.cells = true → i.upsets = [] →
    (s.link.chain = .lost ∨ ∀ f ∈ i.arriving, laneCount f.laneControl = 0) →
    ∀ c ∈ [Instr.frame i, Instr.localFrame i], ∃ t, exec c s = .next t ∧
      let heard : Option ChainFrame :=
        if s.link.chain = .tracking then i.arriving.filter ChainFrame.good else none
      let raw (n : Nat) : Option Slot := heard.bind fun f =>
        ((if n = 24 then s.slotMap.announce else s.slotMap.positions.getD n none).bind fun m =>
          f.slots[m]?).filter fun x => x.status.getLsbD 7
      let y (n : Nat) : Int := (t.channel n).concealed
      let port : Int := if s.port.presence = .present ∧ s.port.reading = true then
          if s.port.store.length ≤ 2 then s.port.lastRead else s.port.store.headD 0
        else 0
      let slips : Bool := s.port.presence == .present && s.port.reading && decide (s.port.store.length ≤ 2)
      let exact (b : Nat) : Int := applyGain (s.area b).live.areaGain
        ((s.area b).records.map fun r => applyGain r.g (y r.position)).sum
      let forms (b : Nat) : Prop := s.running b = true ∧ s.audioReset = none
      let bus (k : Nat) : Int := if k < 6 then (if forms k then saturate (exact k) else 0)
        else match s.holder.bind fun l => (s.ov l).copy with
          | none => 0
          | some p => saturate (applyGain p.gain (match p.source with
            | .localPort => port
            | .slot => if (s.channel 24).presence = .present then y 24 else 0))
      let stopped (k : Nat) : Prop := s.allocClear.isSome = true ∨ s.audioReset.isSome = true ∨
        (∃ f ∈ s.flush, f.1 = k) ∨ (s.line k).length = 0
      (∀ n < 25, t.channel n = match raw n with
        | some x => { s.channel n with
            held := x.sample.toInt, run := 0, concealed := x.sample.toInt
            valid := (s.channel n).valid + 1, peak := max (s.channel n).peak x.sample.toInt.natAbs }
        | none =>
          let z := if (s.channel n).run < 4 then (s.channel n).held else 0
          { s.channel n with
            run := min 5 ((s.channel n).run + 1), concealed := z, peak := max (s.channel n).peak z.natAbs }) ∧
      (∀ n < 25, let marked : Bool := (raw n).any fun x => x.status.getLsbD 6
        t.status.clips.getD n 0 =
          (if marked = true then min (s.status.clips.getD n 0 + 1) 65535 else s.status.clips.getD n 0) ∧
        t.status.clip.getLsbD n = (s.status.clip.getLsbD n || marked)) ∧
      t.port = { s.port with
        store := if s.port.presence = .present ∧ s.port.reading = true ∧ 2 < s.port.store.length
          then s.port.store.drop 1 else s.port.store
        lastRead := if s.port.presence = .present ∧ s.port.reading = true ∧ 2 < s.port.store.length
          then s.port.store.headD 0 else s.port.lastRead
        silent := if s.port.wordSeen = true then 0 else min 48 (s.port.silent + 1)
        wordSeen := false, reading := s.port.reading || s.port.resume, resume := false } ∧
      t.status.slipsUnder =
        (if slips = true then min (s.status.slipsUnder + 1) 65535 else s.status.slipsUnder) ∧
      t.status.slipUnder = (s.status.slipUnder || slips) ∧
      (∀ b < 6, t.status.busClips.getD b 0 = if forms b ∧ saturate (exact b) ≠ exact b
        then min (s.status.busClips.getD b 0 + 1) 65535 else s.status.busClips.getD b 0) ∧
      ∀ k < 7, (t.line k).length = (s.line k).length ∧
        (stopped k → (t.line k).writeAt = (s.line k).writeAt ∧
          ∀ n < s.lineWords k, t.lineWord k n = s.lineWord k n) ∧
        (¬ stopped k → t.lineWord k 0 = ⟨bus k, false⟩ ∧
          ∀ n, n + 1 < s.lineWords k → t.lineWord k (n + 1) = s.lineWord k n)

/-- R83, R90, R92, R109, R113, R121, R124 to R126, R129, R130: in a frame that completes no packet and reads no
word of bad parity, the output slot of every zone carries its sample, its valid mark unless it is OFF, and its
clip mark when saturation changed the sample, which counts; the other six status bits are 0. A LIVE zone whose
path is available reads its line, with the frame's sample already in it, at its tap, or takes the weighted pair
of its old and its new tap in a crossfade, or its old tap before a dip's midpoint and its new one after; the
zone gain less its duck is applied. TEST sends the proving magnitude signed by the generator's bit, ANNOUNCE L6
at the announce tap or the bus itself on the bypass; any other zone sends 0. The sample is weighted by the fade,
and in LIVE by fade and dip, of the frame, which are kept for READ MONITOR. That a saturation ahead of the weight
counts where the weight hides it is the model's choice (log entry 43). -/
def Obligations.FramesGiveEachZoneItsSample : Prop :=
  ∀ (s : State) (i : FrameInput), s.quiet → s.link.inBlock < 48 → s.tablesWhole → s.lawful →
    i.upsets = [] → (∀ w ∈ s.cells, w.2.parityBad = false) →
    (s.link.chain = .lost ∨ ∀ f ∈ i.arriving, laneCount f.laneControl = 0) →
    ∀ c ∈ [Instr.frame i, Instr.localFrame i], ∃ t out, exec c s = .next t ∧ t.link.chainOut = some out ∧
      (∀ k < 7, (t.line k).faulted = (s.line k).faulted) ∧
      (∀ a < 6, t.area a = { s.area a with transition := (s.area a).transition.map fun x =>
        { x with progress := min x.length (x.progress + 1) } }) ∧
      ∀ z < 16,
        let r := s.zone z
        let path := s.pathAvailable z
        let j : Nat := if r.current = .live ∧ path = false then 0 else match r.phase with
          | .fadeIn => min r.length (r.progress + 1)
          | .fadeOut => r.progress - 1
          | .steady | .settle => r.progress
        let moving := (s.inTransition z).bind fun a => s.affectedOn a z
        let dip : Nat := match moving with
          | some (⟨.dip _, _, n, _, _, _⟩, _) => dipRamp n
          | _ => 4096
        let fade : Nat := 4096 * j / r.length
        let weight : Nat := if r.current = .live then (roundDiv ((fade : Int) * dip) 4096).toNat else fade
        let at_ (k : Nat) (tap : Option Nat) : Int := match tap with
          | none => 0
          | some n => if s.lineStopped k = true ∨ (s.line k).length = 0 then 0 else (t.lineWord k n).sample
        let magnitude := applyGain s.proving.level 8388607
        let port : Int := if s.port.presence = .present ∧ s.port.reading = true then
            if s.port.store.length ≤ 2 then s.port.lastRead else s.port.store.headD 0
          else 0
        let announced : Int := match s.holder.bind fun l => (s.ov l).copy with
          | none => 0
          | some p => saturate (applyGain p.gain (match p.source with
            | .localPort => port
            | .slot => if (s.channel 24).presence = .present then (t.channel 24).concealed else 0))
        let read : Int := match r.current with
          | .live =>
            let k := (s.steeringArea z).getD 0
            match moving with
            | none => at_ k r.tap
            | some (x, f) => match x.kind with
              | .crossfade _ => weightedPair (at_ k f.oldTap) (at_ k f.newTap)
                  (4096 * (x.progress + 1) / x.length)
              | .dip _ => at_ k (if x.midDone then f.newTap else f.oldTap)
          | .test => if (r.generator.getLsbD 19 ^^ r.generator.getLsbD 16) ^^ r.insert then magnitude
              else -magnitude
          | .announce => if s.allocClear.isSome || s.audioReset.isSome then 0
              else if r.bypass then announced else at_ 6 (some r.announceTap)
          | .off | .quiet => 0
        let silent : Bool := r.current == .off || r.current == .quiet || (r.current == .live && !path)
        let level : Int := if r.current = .live then applyGain (max (-480) (s.zoneGain z - r.duck)) read
          else read
        let y : Int := roundDiv (saturate level * weight) 4096
        let clipped : Bool := !silent && (saturate level != level || saturate y != y)
        (∀ n < 64, s.slotMap.zones.getD z none = some n → out.slots[n]? = some
          ⟨BitVec.ofInt 24 (if silent then 0 else saturate y),
            BitVec.ofNat 8 ((if r.current = .off then 0 else 128) + if clipped then 64 else 0)⟩) ∧
        t.status.zoneClips.getD z 0 =
          (if clipped then min (s.status.zoneClips.getD z 0 + 1) 65535 else s.status.zoneClips.getD z 0) ∧
        t.zone z = { r with
          progress := j, dipWeight := dip, lastFade := fade, lastDip := dip, lastWeight := weight
          lastValid := r.current != .off
          generator := if r.current = .test then (r.generator <<< 1) |||
            (if r.generator.getLsbD 19 ^^ r.generator.getLsbD 16 then 1#20 else 0#20) else r.generator
          insert := r.insert && r.current != .test }

/-- R100 to R102, R118: a parity mismatch on a line already faulted changes nothing; on any other it faults that
line alone and posts LINE_FAULT. On L6 every zone in ANNOUNCE goes on the bypass. On another line, the
transitions of its area and of the areas joined to it are abandoned and their pending requests cleared: an
affected zone keeps the new tap of a crossfade or of a dip past its midpoint and the old tap of an earlier dip,
and carries a dip's weight into its fade; a LIVE zone that the line serves stands at 0. In a frame, a LIVE zone
or one in ANNOUNCE that reads a word of bad parity so faults the line it reads: the LIVE zone's slot carries 0,
still marked valid, and the zone in ANNOUNCE is on the bypass. -/
def Obligations.ParityFaultStopsTheLine : Prop :=
  (∀ (s : State) (k : Nat), s.areas.length = 6 → s.lines.length = 7 → s.zones.length = 16 → k < 7 →
    let t := s.lineFault k
    let cut (a : Nat) : Prop := k < 6 ∧ (a = k ∨ (s.area a).live.join = some k)
    ((s.line k).faulted = true → t = s) ∧
    ((s.line k).faulted = false →
      t.posts = s.posts ++ [⟨.steering, .lineFault, k, [f2 0], s.link.counter⟩] ∧
      (∀ j < 7, t.line j = { s.line j with faulted := (s.line j).faulted || j == k }) ∧
      (∀ a < 6, (cut a → (t.area a).transition = none ∧ (t.area a).pendingRequest = false) ∧
        (¬ cut a → (t.area a).transition = (s.area a).transition ∧
          (t.area a).pendingRequest = (s.area a).pendingRequest)) ∧
      (k = 6 → t.areas = s.areas ∧
        ∀ z < 16, t.zone z = { s.zone z with
          bypass := (s.zone z).bypass || (s.zone z).current == .announce }) ∧
      (∀ a < 6, cut a → ∀ x, (s.area a).transition = some x → (x.zones.map Affected.zone).Nodup →
        ∀ f ∈ x.zones, f.zone < 16 → (∀ b < 6, b ≠ a → s.affectedOn b f.zone = none) →
          let dips : Bool := match x.kind with
            | .dip _ => true
            | .crossfade _ => false
          (t.zone f.zone).dipWeight = 4096 ∧
          (t.zone f.zone).tap = (if dips = true ∧ x.midDone = false then f.oldTap else f.newTap) ∧
          ((s.zone f.zone).current = .live → t.pathAvailable f.zone = true → (t.zone f.zone).progress =
            if dips then (s.zone f.zone).progress * (s.zone f.zone).dipWeight / 4096
            else (s.zone f.zone).progress)) ∧
      (k < 6 → ∀ z < 16, (s.zone z).current = .live → s.steeringArea z = some k →
        (t.zone z).progress = 0) ∧
      t = { s with
        areas := t.areas, lines := t.lines, zones := t.zones, status := t.status, posts := t.posts })) ∧
  ∀ (s : State) (i : FrameInput), s.quiet → s.link.inBlock < 48 → s.tablesWhole → s.lawful →
    s.allocClear = none → s.audioReset = none →
    (s.link.chain = .lost ∨ ∀ f ∈ i.arriving, laneCount f.laneControl = 0) →
    ∀ c ∈ [Instr.frame i, Instr.localFrame i], ∃ t out, exec c s = .next t ∧ t.link.chainOut = some out ∧
      ∀ z < 16,
        (∀ k n, (s.zone z).current = .live → s.pathAvailable z = true → s.steeringArea z = some k →
          s.inTransition z = none → (s.zone z).tap = some n → (s.line k).length ≠ 0 →
          (t.lineWord k n).parityBad = true → (t.line k).faulted = true ∧ (t.zone z).progress = 0 ∧
            ∀ m < 64, s.slotMap.zones.getD z none = some m → out.slots[m]? = some ⟨0, 0x80⟩) ∧
        ((s.zone z).current = .announce → (s.zone z).bypass = false → (s.line 6).faulted = false →
          s.flushing 6 = false → (s.line 6).length ≠ 0 →
          (t.lineWord 6 (s.zone z).announceTap).parityBad = true →
          (t.line 6).faulted = true ∧ (t.zone z).bypass = true)

/-- R167 to R170, R192: a packet's bytes arrive over any number of frames, the first with the packet-start flag,
at most four to a frame, idle frames between. Once the bytes that its header promises are there it is complete:
it is taken to the acceptance test if its check is good and counts as a CRC drop otherwise, and what follows is
orphan. A length byte above 116 closes it short at that byte; a bad frame or a new start closes an incomplete
one; each counts as a drop. From its fourth byte on it is forwarded unless this unit sent it or it is addressed
to this unit alone, address 63 forwarding all; one closed before that is forwarded as it is. Acceptance gives
the manner, and the header the fields. In a frame with no packet to hand on, the reception record and the
drop counter become what the frame's lane gives. A request that a frame completes, in whatever manner it was taken,
is carried out at once, as its own row would be in the state the frame leaves, under the frame's counter, the events
of the frame taken and no notice of the frame waiting; so is a group or broadcast WAKE UNIT whatever waits. That the
counter is the frame's and the events come first is the model's reading (log entries 5, 31). That bits 6
to 3 of an arriving lane control are not looked at is the model's choice (log entry 53). -/
def Obligations.LanePacketsAreReceived : Prop :=
  (∀ (address : BitVec 6) (held : List Run) (drops : Nat) (first : List Byte) (rest : List (List Byte)),
    first ≠ [] → first.length ≤ 4 → (∀ c ∈ rest, c.length ≤ 4) →
    let lane (good start : Bool) (c : List Byte) (l : Lane) : Lane :=
      l.frame address good (laneControlOf start c.length) (c ++ List.replicate (4 - c.length) 0)
    let l := rest.foldl (fun l c => lane true false c l) (lane true true first ⟨none, held, none, drops⟩)
    let p := first ++ rest.flatten
    let grouped := (p.headD 0).getLsbD 7
    let size := (p.getD (if grouped then 6 else 4) 0).toNat
    let known := (if grouped then 6 else 4) < p.length
    let extent := (if grouped then 11 else 9) + size
    let strips : Prop := address ≠ 63 ∧
      ((grouped = false ∧ (p.headD 0).extractLsb' 0 6 = address) ∨
        p.getD (if grouped then 3 else 1) 0 = address.setWidth 8)
    let whole := p.take extent
    let good := crc16Bytes (whole.take (extent - 2)) = whole.drop (extent - 2)
    (known → size ≤ 116 → extent ≤ p.length →
      l.reception = none ∧ l.taken = (if good then some whole else none) ∧
      l.drops = drops + (if good then 0 else 1) ∧
      (strips → l.forward = held) ∧ (¬ strips → l.forward = held ++ [⟨whole, true⟩]) ∧
      ∀ c, c.length ≤ 4 → lane true false c l = l) ∧
    (known → 116 < size →
      let cut := p.take (if grouped then 7 else 5)
      l.reception = none ∧ l.taken = none ∧ l.drops = drops + 1 ∧
      (strips → l.forward = held) ∧ (¬ strips → l.forward = held ++ [⟨cut, true⟩])) ∧
    (¬ known ∨ (size ≤ 116 ∧ p.length < extent) →
      l.reception = some ⟨p, if known then some extent else none,
        if p.length < 4 then .pending else forwardDecision address p⟩ ∧
      (4 ≤ p.length → (forwardDecision address p = .strip ↔ strips) ∧
        (forwardDecision address p = .forward ↔ ¬ strips)) ∧
      l.taken = none ∧ l.drops = drops ∧
      (p.length < 4 ∨ strips → l.forward = held) ∧
      (4 ≤ p.length → ¬ strips → l.forward = held ++ [⟨p, false⟩]) ∧
      ∀ c, let b := lane false false c l
        b.reception = none ∧ b.taken = none ∧ b.drops = drops + 1 ∧
        (4 ≤ p.length → strips → b.forward = held) ∧
        (p.length < 4 ∨ ¬ strips → b.forward = held ++ [⟨p, true⟩]) ∧
        (c ≠ [] → c.length ≤ 4 → lane true true c l = lane true true c b))) ∧
  (∀ (address : BitVec 6) (groups : BitVec 64) (d g1 g2 source tag kind k1 k2 : Byte) (body check : List Byte),
    body.length ≤ 116 → check.length = 2 →
    let n : Byte := BitVec.ofNat 8 body.length
    let own := address ≠ 63 ∧ source = address.setWidth 8
    (d.getLsbD 7 = false → let p := [d, source, tag, kind, n, k1, k2] ++ body ++ check
      let addr := d.extractLsb' 0 6
      acceptance address groups p = (if own then none else if addr = 63 then some .broadcast
        else if addr = address then some .sole else none) ∧
      ∀ m, parsePacket m p = (kind, ⟨m, source, tag, k1 ++ k2, body⟩)) ∧
    (d.getLsbD 7 = true → let p := [d, g1, g2, source, tag, kind, n, k1, k2] ++ body ++ check
      acceptance address groups p = (if own then none
        else if groups.getLsbD (foldedIndex (g1 ++ g2)) = true then some .group else none) ∧
      ∀ m, parsePacket m p = (kind, ⟨m, source, tag, k1 ++ k2, body⟩))) ∧
  ∀ (s : State) (i : FrameInput) (f : ChainFrame), s.quiet → s.link.inBlock < 48 →
    s.link.chain = .tracking → i.arriving = some f →
    let l := (⟨s.link.reception, [], none, 0⟩ : Lane).frame s.link.address f.good f.laneControl f.laneBytes
    let manner := l.taken.bind (acceptance s.link.address s.link.groups)
    ∀ c ∈ [Instr.frame i, Instr.localFrame i], ∃ t, exec c s = .next t ∧
      (manner = none → t.link.reception = l.reception ∧
        t.status.crcDrops = min (s.status.crcDrops + l.drops) 65535) ∧
      ∀ m p, manner = some m → l.taken = some p →
        let kind := (parsePacket m p).1
        let q := (parsePacket m p).2
        let u := (s.period i).1.settleEvents
        (m ≠ .sole → kind = 35 → q.body = [] → s.engineBusy = false → t.standby = false) ∧
        (u.quiet → ∀ r ∈ requestRows, kind.toNat = r.kind → ∃ v,
          exec (r.row q) { u with link := { u.link with counter := u.link.stamp } } = .next v ∧
          t = { v with link := { v.link with counter := u.link.counter } })

/-- R173, R174: what a frame's lane carries is decided from the state at the end of the frame before: the next
bytes of the local packet being sent; or of the packet being forwarded; or, while TRACKING, the first bytes of
the packet that the forward buffer holds; or, with that buffer empty and no packet in reception that might
still enter it, the first bytes of the outgoing queue's head, which leaves the queue, as the request engine
composed it with the strapped address as its source; or nothing. A listen-only unit removes the queue's head and
sends nothing. A byte sent leaves the buffer. The bytes of a local packet that remain are kept for READ MONITOR. -/
def Obligations.OutgoingLaneFollowsItsTable : Prop :=
  ∀ (s : State) (i : FrameInput), s.quiet → s.link.inBlock < 48 → s.link.laneLaw →
    ∀ c ∈ [Instr.frame i, Instr.localFrame i], ∃ t out, exec c s = .next t ∧ t.link.chainOut = some out ∧
      let l := s.link
      let u := s.sendLane.1
      let sent (start : Bool) (b : List Byte) : Prop :=
        out.laneControl = BitVec.ofNat 8 ((if start then 128 else 0) + b.length) ∧
        out.laneBytes = b ++ List.replicate (4 - b.length) 0
      let local_ (rest : List Byte) : Prop := t.link.laneUse = .own ∧ t.link.laneLeft = rest.length ∧
        t.link.sending = if rest = [] then .idle else .sendingLocal rest
      let waits : Prop := l.forward ≠ [] ∨ ∃ p, l.reception = some p ∧ p.decision ≠ .strip
      (∀ rest, l.sending = .sendingLocal rest → sent false (rest.take 4) ∧ local_ (rest.drop 4) ∧
        u.queue = s.queue ∧ u.link.forward = l.forward) ∧
      (∀ r rs, l.forward = r :: rs → l.sending = .forwarding → sent false (r.bytes.take 4) ∧
        u.queue = s.queue ∧ u.link.forward = ⟨r.bytes.drop 4, r.closed⟩ :: rs) ∧
      (∀ r rs, l.forward = r :: rs → l.sending = .idle → sent true (r.bytes.take 4) ∧
        u.queue = s.queue ∧ u.link.forward = ⟨r.bytes.drop 4, r.closed⟩ :: rs) ∧
      (∀ e q, l.sending = .idle → ¬ waits → s.queue = e :: q →
        let body := encodeBody e.body
        let packet := [e.dest, l.address.setWidth 8, e.tag, e.kind, BitVec.ofNat 8 body.length, 0, 0] ++ body
        let wire := packet ++ crc16Bytes packet
        (l.address ≠ 63 → sent true (wire.take 4) ∧ local_ (wire.drop 4)) ∧
        (l.address = 63 → sent false [] ∧ t.link.laneUse = .nothing) ∧
        u.queue = q ∧ u.link.forward = []) ∧
      (l.sending = .idle → l.forward = [] → waits ∨ s.queue = [] →
        sent false [] ∧ t.link.laneUse = .nothing ∧ u.queue = s.queue)

/-- R35 to R37, R164, R165, R168: CHAIN_LOST empties the forward buffer, closes the packet in reception with a
CRC drop, cuts off a packet being forwarded and lets a local packet go on; CHAIN_REGAINED changes the state
alone. Each posts its notice. A word is discarded by a pending overflow slip, which it clears and counts;
appended to a store in service, with a slip pending from depth - 2 on; or appended to a store that recentres,
which brings the port back at half its depth. A port silent for 48 frames is emptied, and a PRESENT one turns
ABSENT. That the two chain events wait for their rows and carry the counter of the frame they fell in is the
model's reading (log entry 5; R184 gives the stamp), as is the slip that LOCAL_PORT_ABSENT clears (log entry
33). -/
def Obligations.ChainAndPortEvents : Prop :=
  ((∀ s : State, s.powered = true → s.posts = [] → s.link.chain = .tracking → 24 ≤ s.link.badCount →
    exec .chainLost s = .next (State.flushPosts (State.postAt
      { s with
        link := { s.link with
          chain := .lost, reception := none, forward := [],
          sending := if s.link.sending = .forwarding then .idle else s.link.sending
          laneLeft := if s.link.sending = .forwarding then 0 else s.link.laneLeft }
        status := { s.status with
          crcDrops := min (s.status.crcDrops + if s.link.reception.isSome then 1 else 0) 65535 } }
      .link .chainLost 0 [f2 0] s.link.stamp))) ∧
  ∀ s : State, s.powered = true → s.posts = [] → s.link.chain = .lost →
    60 ≤ s.link.history.count true → (∀ b ∈ s.link.history.drop 56, b = true) →
    exec .chainRegained s = .next (State.flushPosts (State.postAt
      { s with link := { s.link with chain := .tracking } } .link .chainRegained 0 [f2 0] s.link.stamp))) ∧
  (∀ (s : State) (w : RawSample), s.quiet →
    let p := s.port
    let serving := p.presence = .present ∧ (p.reading = true ∨ p.resume = true)
    (serving → p.slipPending = true → ∃ t, exec (.localPortWord w) s = .next t ∧
      t.port = { p with silent := 0, wordSeen := true, slipPending := false } ∧
      t.status.slipOver = true ∧ t.status.slipsOver = min (s.status.slipsOver + 1) 65535 ∧
      t = { s with port := t.port, status := t.status, queue := t.queue, sequence := t.sequence,
                   choices := t.choices }) ∧
    (serving → p.slipPending = false → exec (.localPortWord w) s = .next { s with port := { p with
      silent := 0, wordSeen := true, store := p.store ++ [w.toInt],
      slipPending := decide (p.depth ≤ p.store.length + 3) } }) ∧
    (¬ serving → exec (.localPortWord w) s = .next { s with port :=
      if p.depth / 2 ≤ p.store.length + 1 then
        { p with
          silent := 0, wordSeen := true, store := p.store ++ [w.toInt], resume := true,
          presence := .present,
          turns := if p.presence = .absent then p.turns ++ [.present] else p.turns }
      else { p with silent := 0, wordSeen := true, store := p.store ++ [w.toInt] } })) ∧
  ∀ s : State, s.powered = true → s.posts = [] → 48 ≤ s.port.silent →
    (s.port.presence = .present → exec .localPortAbsent s = .next { s with port := { s.port with
      store := [], presence := .absent, turns := s.port.turns ++ [.absent], reading := false,
      resume := false, slipPending := false, lastRead := 0 } }) ∧
    (s.port.presence = .absent →
      exec .localPortAbsent s = .next { s with port := { s.port with store := [] } })

/-- R184: a posted notice sets its flag; masked or suppressed it goes no further; otherwise the sequence
steps and the notice enters the queue, addressed to the reporting address with the sequence as its tag and
subject, value and frame counter as its body, or is dropped and counted when the queue is full. -/
def Obligations.NoticeIsFlaggedThenSent : Prop :=
  ∀ (s : State) (b : Block) (k : NoticeKind) (subject : Nat) (v : Int), s.posts = [] →
    let flagged := { s with status := s.status.setFor k subject v.toNat }
    (s.kindMask.getLsbD k.index = true ∨ s.suppress.getLsbD k.category.index = true →
      (s.post b k subject [f2 v]).flushPosts = flagged) ∧
    (s.kindMask.getLsbD k.index = false → s.suppress.getLsbD k.category.index = false →
      (s.queue.length < 8 → (s.post b k subject [f2 v]).flushPosts =
        { flagged with
          sequence := s.sequence + 1
          queue := s.queue ++ [⟨s.reporting.setWidth 8, s.sequence + 1, BitVec.ofNat 8 (128 + k.index),
            [⟨1, subject⟩, ⟨2, v⟩, ⟨4, s.link.counter⟩]⟩] }) ∧
      (8 ≤ s.queue.length → (s.post b k subject [f2 v]).flushPosts =
        { flagged with
          sequence := s.sequence + 1
          status := { flagged.status with
            noticesDropped := min (s.status.noticesDropped + 1) 65535, outQueueFull := true } }))

/-- R177, R178, R179, R194: a sole request that finds the queue full is dropped and counted; otherwise a kind
that is not listed is UNKNOWN_KIND, a body of the wrong length MALFORMED, an engine-wide busy period answers
BUSY, a wrong key REFUSED_KEY with its flag, count and notice, and only then does the owning block decide. A
reply goes to the source with the request's tag and its kind plus 64; a broadcast or group request has none. A
packet of a reply's or notice's kind changes nothing. Every row of requests is so taken, with the body lengths, the
key and the block that R194's table and R178's give it; READ DISTANCES and READ PROVING are left out here while the
power-up load alone keeps the engine busy (log entry 35). That a reply's destination is the low six bits of the
request's source is the model's choice (log entry 11). -/
def Obligations.RequestIsCheckedInOrder : Prop :=
  ((∀ (s : State) (kind : Nat) (p : Packet) (lengthOk : List Byte → Bool) (key : State → Packet → Key)
      (monitor : Bool) (act : State → Packet → Verdict),
    (p.manner = .sole ∧ 8 ≤ s.queue.length → s.request kind p lengthOk key monitor act =
      { s with status := { s.status with
          requestsDropped := min (s.status.requestsDropped + 1) 65535, outQueueFull := true } }) ∧
    (p.manner ≠ .sole ∨ s.queue.length < 8 →
      (lengthOk p.body = false →
        s.request kind p lengthOk key monitor act = s.reply kind p .malformed []) ∧
      (lengthOk p.body = true → s.engineBusy = true → monitor = false →
        s.request kind p lengthOk key monitor act = s.reply kind p .busy []) ∧
      (lengthOk p.body = true → (s.engineBusy = false ∨ monitor = true) →
        (key s p ≠ 0 → key s p ≠ p.key → s.request kind p lengthOk key monitor act =
          State.reply (State.post
            { s with status := { s.status with keyFaults := min (s.status.keyFaults + 1) 65535 } }
            .engine .keyFault p.source.toNat [f2 kind]) kind p .refusedKey []) ∧
        (key s p = 0 ∨ key s p = p.key → s.request kind p lengthOk key monitor act =
          (act s p).1.reply kind p (act s p).2.1 (act s p).2.2)))) ∧
  ∀ (s : State) (kind : Nat) (p : Packet) (code : ResultCode) (body : List Field),
    (p.manner = .sole → s.reply kind p code body =
      { s with queue := s.queue ++ [⟨p.source &&& 0x3F#8, p.tag, BitVec.ofNat 8 (kind + 64),
        ⟨1, code.code⟩ :: body⟩] }) ∧
    (p.manner ≠ .sole → s.reply kind p code body = s)) ∧
  (∀ (s : State) (k : Byte) (p : Packet), s.quiet → unknownKindOk k = true →
    exec (.unknownKind k p) s =
      if p.manner = .sole ∧ 8 ≤ s.queue.length then .next
        { s with status := { s.status with
            requestsDropped := min (s.status.requestsDropped + 1) 65535, outQueueFull := true } }
      else s.answer k.toNat p .unknownKind []) ∧
  (∀ r ∈ requestRows, ∀ (s : State) (p : Packet), s.quiet →
    (s.loadAloneBusy = false ∨ (r.kind ≠ 12 ∧ r.kind ≠ 20)) →
    (p.manner = .sole ∧ 8 ≤ s.queue.length → exec (r.row p) s = .next
      { s with status := { s.status with
          requestsDropped := min (s.status.requestsDropped + 1) 65535, outQueueFull := true } }) ∧
    (p.manner ≠ .sole ∨ s.queue.length < 8 →
      (r.fits p.body.length = false → exec (r.row p) s = s.answer r.kind p .malformed []) ∧
      (r.fits p.body.length = true → s.engineBusy = true → r.kind ≠ 1 → r.kind ≠ 4 →
        exec (r.row p) s = s.answer r.kind p .busy []) ∧
      (r.fits p.body.length = true → s.engineBusy = false ∨ r.kind = 1 ∨ r.kind = 4 →
        (r.key s p ≠ 0 → r.key s p ≠ p.key → exec (r.row p) s = State.answer (State.post
          { s with status := { s.status with keyFaults := min (s.status.keyFaults + 1) 65535 } }
          .engine .keyFault p.source.toNat [f2 r.kind]) r.kind p .refusedKey []) ∧
        (r.key s p = 0 ∨ r.key s p = p.key → exec (r.row p) s =
          State.answer (r.act s p).1 r.kind p (r.act s p).2.1 (r.act s p).2.2)))) ∧
  (∀ k : Byte, unknownKindOk k = true ↔ k = 0 ∨ k = 17 ∨ (36 ≤ k.toNat ∧ k.toNat < 64)) ∧
  ∀ (s : State) (k : Byte) (p : Packet), 64 ≤ k.toNat → exec (.nonRequestPacket k p) s = .next s

/-- R129, R132 to R137: each frame a SEARCHING or LOCKED detector, but in standby, takes one bit from the sense
slot, the sign of a valid sample that is not 0, and anything else is a break; the rest of its state is as the
frame found it. While searching, a break empties the shadow; fewer than 20 bits grow it; 20 bits that are all 0
move on without a prediction; any other 20 predict the next bit, which counts when it comes so and is the first
of a new shadow when not. At the 32nd confirmed bit the detector locks with its shadow as the flywheel; at
the 16th mismatch of a window it searches again from an empty shadow; at the 256th frame of a window a new one
begins. Lock and loss post their notices with the error count; that these events wait for their rows and carry
the counter of the frame they fell in is the model's reading (log entry 5). The stages of a restarted generator
are never all 0; and a locked detector whose flywheel holds a generator's stages predicts its next bit, so that
the generator's own bit costs nothing, the inverted one or a break exactly one mismatch, and the flywheel holds
the generator's next stages in every case; the frame of the 16th mismatch does not count in the window. That a lock
keeps the shadow and leaves the confirmed count at 0, and that a loss leaves the window at 0, is the model's choice
(log entries 44, 51). -/
def Obligations.DetectorLocksAndFollows : Prop :=
  (∀ (s : State) (i : FrameInput), s.quiet → s.link.inBlock < 48 →
    (∀ f, s.link.chain = .tracking → i.arriving = some f →
      (((⟨s.link.reception, [], none, 0⟩ : Lane).frame s.link.address f.good f.laneControl f.laneBytes).taken.bind
        (acceptance s.link.address s.link.groups)) = none) →
    let bit : Option Bool := match i.arriving, s.slotMap.sense with
      | some f, some n =>
        if s.link.chain = .tracking ∧ f.good = true then
          match f.slots[n]? with
          | none => none
          | some x =>
            if x.status.getLsbD 7 = false ∨ x.sample = 0 then none else some (decide (0 < x.sample.toInt))
        else none
      | _, _ => none
    ∀ c ∈ [Instr.frame i, Instr.localFrame i], ∃ t, exec c s = .next t ∧
      t.proving = if s.standbyTaken = true then s.proving else match s.proving.state with
        | .idle => s.proving
        | .searching => s.proving.searchStep bit
        | .locked => s.proving.lockStep bit) ∧
  (∀ (p : Proving) (b : Bool),
    let predicted := p.shadow.getD 19 false ^^ p.shadow.getD 16 false
    let q := p.searchStep (some b)
    p.searchStep none = { p with shadow := [], confirmed := 0 } ∧
    (p.shadow.length < 20 → q = { p with shadow := b :: p.shadow }) ∧
    (p.shadow.length = 20 → (∀ x ∈ p.shadow, x = false) → q = { p with shadow := b :: p.shadow.take 19 }) ∧
    (p.shadow.length = 20 → (∃ x ∈ p.shadow, x = true) →
      (b = predicted → q = { p with shadow := b :: p.shadow.take 19, confirmed := p.confirmed + 1 }) ∧
      (b ≠ predicted → q = { p with shadow := [b], confirmed := 0 }))) ∧
  (∀ s : State, s.powered = true → s.posts = [] →
    let p := s.proving
    let subject := (p.assignment.map Prod.fst).getD 255
    (p.state = .searching → 32 ≤ p.confirmed →
      exec .provingLock s = .next (State.flushPosts (State.postAt
        { s with proving := { p with
          state := .locked, flywheel := p.shadow, confirmed := 0, progress := 0, mismatches := 0 } }
        .proving .provingLocked subject [f2 p.errors] s.link.stamp))) ∧
    (p.state = .locked → 16 ≤ p.mismatches →
      exec .provingLoss s = .next (State.flushPosts (State.postAt
        { s with proving := { p with
          state := .searching, shadow := [], confirmed := 0, flywheel := [], progress := 0,
          mismatches := 0 } }
        .proving .provingLost subject [f2 p.errors] s.link.stamp))) ∧
    (p.state = .locked → p.mismatches < 16 → 256 ≤ p.progress →
      exec .provingWindowEnd s = .next
        { s with proving := { p with progress := 0, mismatches := 0 } })) ∧
  (∀ g : BitVec 20, g ≠ 0 → generatorStep g ≠ 0) ∧
  ∀ (p : Proving) (g : BitVec 20) (bit : Option Bool), p.state = .locked → p.mismatches < 16 →
    p.flywheel = (List.range 20).map (fun n => g.getLsbD n) →
    let next := generatorStep g
    let q := p.lockStep bit
    q.flywheel = (List.range 20).map (fun n => next.getLsbD n) ∧
    (bit = some (generatorBit g) → q.errors = p.errors ∧ q.mismatches = p.mismatches) ∧
    (bit ≠ some (generatorBit g) →
      q.errors = min (p.errors + 1) 65535 ∧ q.mismatches = p.mismatches + 1) ∧
    q.progress = (if p.mismatches = 15 ∧ bit ≠ some (generatorBit g) then p.progress else p.progress + 1) ∧
    q.state = .locked ∧ next.getLsbD 0 = generatorBit g

/-! ## Events of a block boundary -/

/-- R46, R48, R55 to R57: FLOOR_RISE raises the member's floor by 1 qdB, not above -40, and restarts its count;
GATE_HOLD_EXPIRY closes its gate; every other member and area is as it was. LEAD_CHANGE gives the area the
challenger's identity as its lead, clears the challenger, posts a steering request and the notice LEAD_CHANGED
with the lead's position and source, and changes no other area. A boundary elects so: the candidates are the
present SPEECH members whose gate is OPEN and the ensemble group at its threshold; the top is the one of the
greatest level, then of the lower position, then SPEECH; a top that is the lead, or less than the margin above
it, leaves no challenger; another counts up, and at the lead hold becomes the lead. The election is stated where
no service state, plan or image changes at the boundary. That the lead level kept for READ MONITOR is the old
lead's is the model's choice (log entry 32). -/
def Obligations.MixerEvents : Prop :=
  (∀ (s : State) (a p : Nat) (r : MemberRec), s.quietAtBoundary → s.areas.length = 6 →
    (s.area a).record p = some r →
    (s.floorDue a p = true → ∃ t, exec (.floorRise a p) s = .next t ∧
      (t.area a).record p = some { r with f := min (-40) (r.f + 1), rise := 0 } ∧
      (∀ q, q ≠ p → (t.area a).record q = (s.area a).record q) ∧
      (∀ b, b ≠ a → t.area b = s.area b) ∧
      t.area a = { s.area a with records := (t.area a).records } ∧
      t = { s with areas := t.areas, early := t.early }) ∧
    (s.gateDue a p = true → ∃ t, exec (.gateHoldExpiry a p) s = .next t ∧
      (t.area a).record p = some { r with gate := .closed, hold := 0 } ∧
      (∀ q, q ≠ p → (t.area a).record q = (s.area a).record q) ∧
      (∀ b, b ≠ a → t.area b = s.area b) ∧
      t.area a = { s.area a with records := (t.area a).records } ∧
      t = { s with areas := t.areas, early := t.early })) ∧
  (∀ (s : State) (a : Nat) (lead : Lead), s.quietAtBoundary → s.leadDue a = some lead →
    exec (.leadChange a) s = .next (State.flushPosts (State.post
      { s with
        areas := s.areas.modify a fun r =>
          { r with lead := lead, challenger := none, posted := true, leadLevel := s.leadLevelAhead a }
        early := .lead a :: s.early }
      .mixer .leadChanged a [f1 lead.position, f1 lead.source.code]))) ∧
  ∀ (s : State) (b : Nat), s.quietAtBoundary → s.areas.length = 6 → b < 6 → s.running b = true →
    s.audioReset = none → s.load = none → s.save = none → s.fallbackDue = false → s.early = [] →
    (∀ a < 6, (s.area a).restCount ≠ 1 ∧ (s.area a).transition.any Transition.midpointDue = false) →
    let r := s.area b
    let present (p : Nat) : Bool := s.presentAhead p
    let m := mixSteps r.live s.levelAhead present [] r.records
    let level : Int := match r.lead.source with
      | .rest => -480
      | .ensemble => m.ensembleLevel
      | .speech => ((m.records.find? fun x =>
          x.position == r.lead.position && x.kind == .speech && present x.position).map MemberRec.s).getD (-480)
    let stands (c : Lead) (v : Int) : Prop :=
      (c.source = .speech ∧ ∃ x ∈ m.records, x.kind = .speech ∧ present x.position = true ∧
        x.gate = .opened ∧ x.position = c.position ∧ x.s = v) ∨
      (c.source = .ensemble ∧ r.live.ensemble = some c.position ∧ m.ensembleLevel = v ∧
        r.live.ensembleThreshold ≤ v ∧ ∃ x ∈ m.records, x.kind = .ensemble ∧ present x.position = true)
    let tops (c : Lead) (v : Int) : Prop := stands c v ∧ ∀ d w, stands d w → w < v ∨
      (w = v ∧ (c.position < d.position ∨ (c.position = d.position ∧ (c.source = .speech ∨ d.source = .ensemble))))
    ∃ t, exec .blockBoundary s = .next t ∧
      let u := t.area b
      let keeps : Prop := u.lead = r.lead ∧ u.due = r.posted
      u.records = m.records ∧ u.nom = m.nom ∧ u.speechTop = m.top ∧ u.ensembleLevel = m.ensembleLevel ∧
      u.leadLevel = level ∧ u.live = r.live ∧ u.posted = false ∧
      ((∀ c v, ¬ stands c v) → u.challenger = none ∧ keeps) ∧
      ((∃ c v, stands c v) → ∃ c v, tops c v ∧
        (c = r.lead ∨ v < level + r.live.leadMargin → u.challenger = none ∧ keeps) ∧
        (c ≠ r.lead → level + r.live.leadMargin ≤ v →
          let count : Nat := match r.challenger with
            | some x => if x.lead = c then x.count + 1 else 1
            | none => 1
          ((count : Int) < r.live.leadHold → u.challenger = some ⟨c, count⟩ ∧ keeps) ∧
          (r.live.leadHold ≤ (count : Int) → u.lead = c ∧ u.challenger = none ∧ u.due = true ∧
            t.status.lead.getLsbD b = true)))

/-- R88, R89: a steering request taken at a boundary finds the records as the other events of the boundary leave
them. It starts a crossfade of the plan's length from each affected zone's current tap to the tap formed from the
lead when the area is SETTLED and holds no take; becomes the pending request when a take is held, a transition is in
flight or the area rests; and is discarded when the area is IDLE, FAULTED or RESETTING. Where nothing else falls due
the records are as they stand, and where a waiting take's dip is all that does, it has started on its record, so
that the request waits behind it. R76, R78, R79: each tap so formed is the stored delay of the lead's position and
the zone with the precedence margin, limited to the last sample of the line, and 0 on a line of 0 blocks; a zone
whose tap the limit changed has its TAP_CLAMPED flag set, and the notice, with the tap before the limit, is posted
where the flag was clear. What the row takes ahead of the request, over every record, is the model's reading (log
entries 45, 46). -/
def Obligations.SteeringRequestByPhase : Prop :=
  (∀ (s : State) (a : Nat), s.quietAtBoundary → s.areas.length = 6 → a < 6 → (s.area a).due = true →
    let u := s.beforeRequests
    let n := (u.line a).length
    let raw (z : Nat) : Nat :=
      u.delay.delays.getD (16 * (u.area a).lead.position + z) 0 + (u.area a).live.precedence.toNat
    let tap (z : Nat) : Nat := if n = 0 then 0 else min (raw z) (n * 48 - 1)
    let clamps (z : Nat) : Bool := decide (0 < n) && decide (n * 48 - 1 < raw z)
    (u.phase a = .settled → (u.area a).stagedState ≠ .held →
      ∃ t, exec (.steeringRequest a) s = .next t ∧
        t.area a = { u.area a with
          due := false
          transition := some ⟨.crossfade .lead, (u.area a).live.crossfade.toNat * 48, 0,
            (u.crossfadeZones a).map fun z => ⟨z, (u.zone z).tap, some (tap z)⟩, false, false⟩ } ∧
        (∀ z < 16, t.status.tapClamped.getLsbD z =
          (u.status.tapClamped.getLsbD z || (u.crossfadeZones a).any fun y => y == z && clamps z)) ∧
        t.status = { u.status with
          tapClamped := t.status.tapClamped, noticesDropped := t.status.noticesDropped,
          outQueueFull := t.status.outQueueFull } ∧
        (∀ b, b ≠ a → t.area b = u.area b) ∧
        t = { u with areas := t.areas, status := t.status, queue := t.queue, sequence := t.sequence,
                     choices := t.choices, posts := [] }) ∧
    (u.phase a = .settled ∧ (u.area a).stagedState = .held ∨ u.phase a = .crossfade ∨
        u.phase a = .dip ∨ u.phase a = .resting →
      exec (.steeringRequest a) s = .next (State.flushPosts
        { u with areas := u.areas.modify a fun r => { r with due := false, pendingRequest := true } })) ∧
    (u.phase a = .idle ∨ u.phase a = .faulted ∨ u.phase a = .resetting →
      exec (.steeringRequest a) s = .next (State.flushPosts
        { u with areas := u.areas.modify a fun r => { r with due := false } }))) ∧
  (∀ s : State, s.flush.any (fun f => f.2.last) = false → s.audioReset.any Timer.last = false →
    s.save.any (fun v => v.timer.last) = false →
    (∀ b < 6, (s.area b).transitionDone = false ∧ (s.area b).transition.any Transition.midpointDue = false ∧
      (s.area b).decisionDue = false ∧ (s.area b).checkDue = false) →
    let waits (b c : Nat) : Prop := s.phase b = .settled ∧ s.early.contains (.flushed b) = false ∧
      s.dipChoice b = some c
    ((∀ b < 6, ∀ c, ¬ waits b c) → s.beforeRequests = s) ∧
    ∀ a < 6, ∀ c, waits a c → (∀ b < 6, b ≠ a → ∀ d, ¬ waits b d) → s.beforeRequests = s.startDip a c) ∧
  ∀ (s : State) (block : Block) (z n tap : Nat),
    (0 < n → n * 48 - 1 < tap → s.status.tapClamped.getLsbD z = false →
      s.reportTap block z n tap = { s with
        status := { s.status with tapClamped := s.status.tapClamped ||| (1#16 <<< z) }
        posts := s.posts ++ [⟨block, .tapClamped, z, [f2 tap], s.link.counter⟩] }) ∧
    (n = 0 ∨ tap ≤ n * 48 - 1 ∨ s.status.tapClamped.getLsbD z = true → s.reportTap block z n tap = s)

/-- R91, R92, R94, R95, R98: a dip starts at a boundary on a SETTLED record for the area's own take, or else for
that of the lowest area joined to it: 1,536 samples, each affected zone holding its tap until the midpoint.
The decision after a cancelled rest fade starts it in the same way; with no take waiting it serves a pending
request, with a crossfade if any tap moves, or else makes the retune check, with a RETUNE crossfade of the zones
whose taps differ by the threshold or more; in any other phase it only takes note that it has been made. A dip
that starts at any boundary where the record is SETTLED, the own take before a joined one, the operand that names
the record, and no dip where a flush ended, are the model's reading (log entry 23), as it is that a zone which has
or gets no tap does not count as moving (log entry 21); that the decision after a cancelled rest starts its dip also
where a flush ended is its choice (log entry 48). -/
def Obligations.DipStartsForTheWaitingTake : Prop :=
  ∀ (s : State) (c : Nat), s.quietAtBoundary → s.areas.length = 6 → c < 6 →
    let dip (a : Nat) : Transition := ⟨.dip a, 1536, 0,
      (s.dipZones c a).map fun z => ⟨z, (s.zone z).tap, (s.zone z).tap⟩, false, false⟩
    let firstJoined (a : Nat) : Prop := s.takeWaits c = false ∧ s.joinedTo a c = true ∧ a < 6 ∧ a ≠ c ∧
      s.takeWaits a = true ∧ ∀ b < a, b ≠ c → s.joinedTo b c = true → s.takeWaits b = false
    let noneWaits : Prop := s.takeWaits c = false ∧
      ∀ b < 6, b ≠ c → s.joinedTo b c = true → s.takeWaits b = false
    let decided (f : Area → Area) : Host.Outcome State Fault Refusal := .next
      { s with areas := s.areas.modify c fun r => f { r with decisionDue := false } }
    (s.phase c = .settled → s.early.contains (.flushed c) = false →
      (s.takeWaits c = true → exec (.dipStart c) s = .next
        { s with areas := s.areas.modify c fun r => { r with transition := some (dip c) } }) ∧
      (∀ a, firstJoined a → exec (.dipStart c) s = .next
        { s with areas := s.areas.modify c fun r => { r with transition := some (dip a) } }) ∧
      (noneWaits → exec (.dipStart c) s = .next s)) ∧
    ((s.area c).decisionDue = true →
      (s.phase c ≠ .settled → exec (.restCancelDecision c) s = decided id) ∧
      (s.phase c = .settled →
        (s.takeWaits c = true →
          exec (.restCancelDecision c) s = decided fun r => { r with transition := some (dip c) }) ∧
        (∀ a, firstJoined a →
          exec (.restCancelDecision c) s = decided fun r => { r with transition := some (dip a) }) ∧
        (noneWaits → ∃ t, exec (.restCancelDecision c) s = .next t ∧
          let formed : List Affected :=
            (s.crossfadeZones c).map fun z => ⟨z, (s.zone z).tap, some (s.steeredTap c z)⟩
          let far (n : Int) (f : Affected) : Bool := match f.oldTap, f.newTap with
            | some x, some y => decide (n ≤ |(y : Int) - x|)
            | _, _ => false
          let threshold := (s.area c).live.retune
          let crossfade (reason : Reason) (zs : List Affected) : Option Transition :=
            some ⟨.crossfade reason, (s.area c).live.crossfade.toNat * 48, 0, zs, false, false⟩
          t.area c = { s.area c with
            decisionDue := false, pendingRequest := false
            transition := if (s.area c).pendingRequest then
                (if formed.any (far 1) then crossfade .lead formed else none)
              else if formed.any (far threshold) then crossfade .retune
                (formed.map fun f => if far threshold f then f else { f with newTap := f.oldTap })
              else none } ∧
          ((s.area c).pendingRequest = false → formed.any (far threshold) = true →
            t.status.retune.getLsbD c = true) ∧
          (∀ b, b ≠ c → t.area b = s.area b) ∧
          t = { s with areas := t.areas, status := t.status, queue := t.queue, sequence := t.sequence,
                       choices := t.choices })))

/-- R17, R20, R21, R87, R92, R99, R118: at a dip's midpoint a held take that passes validation becomes the live
plan, unless DISCARD has removed the take that the dip was for; one that fails leaves every live plan, is removed
and sets TAKE_FAILED. After a take that goes live, each affected zone's new tap is the one its steering area
gives where its own area is IN_SERVICE, and its old one elsewhere; a zone in no live plan has no tap, nor any in
another record's transition. With none applied each affected zone keeps its tap, or has none when it is in no
live plan. A LIVE zone with no change in flight whose path comes stands at full progress, one without a path at
0. The dip runs on. That an affected zone of an area not IN_SERVICE keeps its old tap is the model's choice (log
entries 21, 39), and that full progress is given only to zones with no change in flight its reading (log entry
21). -/
def Obligations.DipMidpointAppliesTheTake : Prop :=
  ∀ (s : State) (b a : Nat) (tr : Transition), s.quietAtBoundary → s.areas.length = 6 → b < 6 → a < 6 →
    (s.area b).transition = some tr → tr.kind = .dip a → 768 ≤ tr.progress → tr.midDone = false →
    ∃ t tr', exec (.dipMidpoint b) s = .next t ∧ (t.area b).transition = some tr' ∧
      tr'.kind = tr.kind ∧ tr'.length = tr.length ∧ tr'.progress = tr.progress ∧ tr'.midDone = true ∧
      tr'.withdrawn = tr.withdrawn ∧ tr'.zones.map Affected.zone = tr.zones.map Affected.zone ∧
      let serves : Prop := (s.area a).stagedState = .held ∧ tr.withdrawn = false
      let applies : Prop := serves ∧ s.validate a (s.area a).staged = none
      (¬ serves → ∀ c, (t.area c).live = (s.area c).live ∧
        (t.area c).staged = (s.area c).staged ∧ (t.area c).stagedState = (s.area c).stagedState) ∧
      (serves → s.validate a (s.area a).staged ≠ none →
        (∀ c, (t.area c).live = (s.area c).live) ∧ (t.area a).staged = (s.area a).staged ∧
          (t.area a).stagedState = .edited ∧ t.status.takeFailed.getLsbD a = true) ∧
      (¬ applies → tr'.zones = tr.zones.map fun f =>
        { f with newTap := if (s.zoneArea f.zone).isSome then f.oldTap else none }) ∧
      (applies →
        (t.area a).live = (s.area a).staged ∧ (t.area a).staged = (s.area a).staged ∧
        (t.area a).stagedState = .clean ∧ t.status.takeApplied.getLsbD a = true ∧
        (∀ c, c ≠ a → (t.area c).live = (s.area c).live) ∧
        (tr'.zones = tr.zones.map fun f => { f with newTap := match t.zoneArea f.zone with
          | none => none
          | some c => if t.inService c = true then some (t.steeredTap (t.steeredBy c) f.zone)
            else f.oldTap }) ∧
        (∀ z < 16, t.zoneArea z = none → (t.zone z).tap = none) ∧
        ∀ c < 6, c ≠ b → (t.area c).transition = (s.area c).transition.map fun x =>
          { x with zones := x.zones.map fun f =>
            if t.zoneArea f.zone = none then ⟨f.zone, none, none⟩ else f }) ∧
      ∀ z < 16, (t.zone z).current = (s.zone z).current ∧
        ((s.zone z).current = .live → t.pathAvailable z = false → (t.zone z).progress = 0) ∧
        ((∃ f ∈ tr.zones, f.zone = z) → s.zones.length = 16 → (s.zone z).current = .live →
          (s.zone z).next = none → (s.zone z).phase ≠ .settle → s.pathAvailable z = false →
          t.pathAvailable z = true →
          (t.zone z).phase = .steady ∧ (t.zone z).progress = 1536 ∧ (t.zone z).length = 1536)

/-- R87, R94: a transition that has sent its last sample completes: each affected zone's current tap is its
new tap and its dip weight unity; no other zone's tap changes; any transition then found on the record has
just begun; and a take the area itself holds is the first to be served, by a dip. -/
def Obligations.TransitionCompletes : Prop :=
  ∀ (s : State) (a : Nat) (tr : Transition), s.quietAtBoundary → s.areas.length = 6 → a < 6 →
    s.zones.length = 16 → (s.area a).transition = some tr → tr.length ≤ tr.progress →
    (tr.zones.map Affected.zone).Nodup → (∀ f ∈ tr.zones, f.zone < 16) →
    ∃ t, exec (.transitionComplete a) s = .next t ∧
      (∀ f ∈ tr.zones, (t.zone f.zone).tap = f.newTap ∧ (t.zone f.zone).dipWeight = 4096) ∧
      (∀ z < 16, z ∉ tr.zones.map Affected.zone → t.zone z = s.zone z) ∧
      (∀ tr', (t.area a).transition = some tr' → tr'.progress = 0) ∧
      ((s.area a).stagedState = .held → (s.area a).service = .inService → (s.area a).restCount = 0 →
        s.save = none → (s.area a).live.join = none → s.audioReset = none → s.lineDown a = false →
        ∃ zs, (t.area a).transition = some ⟨.dip a, 1536, 0, zs, false, false⟩) ∧
      t = { s with areas := t.areas, zones := t.zones, status := t.status, queue := t.queue,
                   sequence := t.sequence, choices := t.choices }

/-- R79, R85, R104, R106, R184: the end of an allocation clear leaves every word of the memory zero and reports
the seven lengths; that of a flush leaves its line zero and unfaulted, every other line's words as they were, and
a running area's zones at the taps then formed, and reports FLUSH_DONE; that of an AUDIO reset leaves every word
zero, starts the dips and retunes that are due, and reports RESET_DONE. No other state changes but the marks of
events taken and what the notices change. That the words no line covers are emptied too, and that the next word
written is each line's first, is the model's choice (log entries 10, 28). -/
def Obligations.ClearsEndWithSilentLines : Prop :=
  ∀ (s : State) (tm : Timer), s.quietAtBoundary → s.lines.length = 7 → Memory.wf s.cells = true →
    tm.started = true → tm.remaining ≤ 1 →
    (s.allocClear = some tm →
      exec .allocationClearEnd s = .next (State.flushPosts (State.post
        { s with cells := [], lines := s.lines.map (fun l => { l with writeAt := 0 }), allocClear := none }
        .steering .allocationDone 0 (s.lines.map fun l => f2 l.length)))) ∧
    (∀ k < 7, s.flush = some (k, tm) → s.zones.length = 16 →
      let t := s.flushEnd
      exec .flushEnd s = .next t.flushPosts ∧
      (∃ ps, t.posts = ⟨.steering, .flushDone, k, [f2 0], s.link.counter⟩ :: ps ∧
        ∀ p ∈ ps, p.kind = .tapClamped) ∧
      (∀ n, s.firstBlock k * 48 ≤ n → n < s.firstBlock k * 48 + s.lineWords k →
        readCell t.cells n = MemWord.zero) ∧
      (∀ n, n < s.firstBlock k * 48 ∨ s.firstBlock k * 48 + s.lineWords k ≤ n →
        readCell t.cells n = readCell s.cells n) ∧
      (∀ j < 7, t.line j = if j = k then ⟨(s.line k).length, 0, false⟩ else s.line j) ∧
      (∀ z < 16, let formed : Prop := k < 6 ∧ s.running k = true ∧ s.steeringArea z = some k
        (formed → t.zone z = { s.zone z with tap := some (s.steeredTap k z) }) ∧
        (¬ formed → t.zone z = s.zone z)) ∧
      t = { s with
        flush := none, cells := t.cells, lines := t.lines, zones := t.zones, status := t.status
        posts := t.posts, early := .flushed k :: s.early }) ∧
    (s.audioReset = some tm →
      let t := s.resetAudioEnd
      exec .resetAudioEnd s = .next t.flushPosts ∧
      (∃ ps, t.posts = ⟨.engine, .resetDone, 0, [f2 0], s.link.counter⟩ :: ps ∧
        ∀ p ∈ ps, p.kind = .tapClamped ∨ p.kind = .retuneStarted) ∧
      (∀ a, t.area a = { s.area a with transition := (t.area a).transition }) ∧
      t = { s with
        audioReset := none, cells := [], lines := s.lines.map (fun l => { l with writeAt := 0 })
        areas := t.areas, status := t.status, posts := t.posts, early := .resetEnd :: s.early })

/-- R19, R97, R188, R189, R191: a save ends with its copy in the image memory, behind the format mark and with a
good sum; a first pass whose image fails ends the load with the reason, which at power-up is the outcome; one
that passes goes on to a second pass of 200 blocks. So it is where no take is held. A take that a DORMANT area
held through a save or a failed load goes live then if it passes validation, and fails otherwise; one that a
SETTLED area IN_SERVICE held through a save starts its dip, also where a flush ended, the model's choice (log entry
48). -/
def Obligations.SaveAndFirstPassEnd : Prop :=
  ∀ s : State, s.quietAtBoundary →
    ((∀ a < 6, (s.area a).stagedState ≠ .held) →
      (∀ v : Save, s.save = some v → v.timer.started = true → v.timer.remaining ≤ 1 →
        exec .imageSaveEnd s = .next (State.flushPosts (State.post
          { s with save := none, image := ⟨(165, 28), true, v.copy⟩ } .engine .imageSaved 0 [f2 0]))) ∧
      (∀ l : Load, s.load = some l → l.second = false → l.timer.started = true → l.timer.remaining ≤ 1 →
        s.early.contains .loadPass = false →
        (∀ code, imageFailure s.image = some code → exec .imageLoadFirstPassEnd s = .next
          (State.flushPosts (if l.powerUp then State.post
            { s.setStanding with load := none, outcome := code, early := .loadPass :: s.early }
            .engine .powerUp 0 [f2 code.code]
          else State.post { s with load := none, early := .loadPass :: s.early }
            .engine .imageFailed 0 [f2 code.code]))) ∧
        (imageFailure s.image = none → exec .imageLoadFirstPassEnd s = .next
          { s with load := some ⟨⟨200, true⟩, true, l.powerUp⟩, early := .loadPass :: s.early }))) ∧
    ∀ a < 6, s.areas.length = 6 → (∀ b < 6, (s.area b).stagedState = .held ↔ b = a) →
      let saved : Prop := ∃ v, s.save = some v ∧ v.timer.started = true ∧ v.timer.remaining ≤ 1
      let failed : Prop := ∃ l, s.load = some l ∧ l.second = false ∧ l.timer.started = true ∧
        l.timer.remaining ≤ 1 ∧ s.early.contains .loadPass = false ∧ imageFailure s.image ≠ none
      let served (t : State) : Prop :=
        (s.validate a (s.area a).staged = none → (t.area a).live = (s.area a).staged ∧
          (t.area a).stagedState = .clean ∧ t.status.takeApplied.getLsbD a = true) ∧
        (s.validate a (s.area a).staged ≠ none → (t.area a).live = (s.area a).live ∧
          (t.area a).stagedState = .edited ∧ t.status.takeFailed.getLsbD a = true)
      (saved → ∃ t, exec .imageSaveEnd s = .next t ∧ t.save = none ∧
        ((s.area a).service = .dormant → served t) ∧
        ((s.area a).service = .inService → (s.area a).restCount = 0 → s.phase a = .settled →
          (t.area a).stagedState = .held ∧
          ∃ zs, (t.area a).transition = some ⟨.dip a, 1536, 0, zs, false, false⟩)) ∧
      (failed → (s.area a).service = .dormant → ∃ t, exec .imageLoadFirstPassEnd s = .next t ∧
        t.load = none ∧ served t)

/-- R189, R196: the checks of an image are made in the order of the table and the first that fails gives the
reason: BLANK where its first two bytes are not 165 and 28, as in an erased memory, SUM, RANGE, then the laws of
the plans as a set, the allocation and the output slots. -/
def Obligations.ImageChecksInOrder : Prop :=
  imageFailure ImageMemory.erased = some .blank ∧
  ∀ m : ImageMemory,
    let d := m.data
    let marked : Prop := m.mark.1.toNat = 165 ∧ m.mark.2.toNat = 28
    let twoPlans (has : Plan → Nat → Bool) (n : Nat) : Prop :=
      ∃ q < n, ∃ a b : Nat, a < b ∧ b < 6 ∧ has (d.plans.getD a Plan.factory) q = true ∧
        has (d.plans.getD b Plan.factory) q = true
    let chained : Prop := ∃ a < 6, ∃ b : Nat, (d.plans.getD a Plan.factory).join = some b ∧
      (d.plans.getD b Plan.factory).join ≠ none
    let doubled : Prop := ∃ y z : Nat, y < z ∧ z < 16 ∧ d.zoneSlots.getD y none ≠ none ∧
      d.zoneSlots.getD y none = d.zoneSlots.getD z none
    (¬ marked → imageFailure m = some .blank) ∧
    (marked → m.sumGood = false → imageFailure m = some .sum) ∧
    (marked → m.sumGood = true → imageInRange d = false → imageFailure m = some .range) ∧
    (marked → m.sumGood = true → imageInRange d = true →
      (twoPlans Plan.hasMember 24 → imageFailure m = some .memberConflict) ∧
      (¬ twoPlans Plan.hasMember 24 → twoPlans Plan.hasZone 16 → imageFailure m = some .zoneConflict) ∧
      (¬ twoPlans Plan.hasMember 24 → ¬ twoPlans Plan.hasZone 16 →
        chained → imageFailure m = some .joinChain) ∧
      (¬ twoPlans Plan.hasMember 24 → ¬ twoPlans Plan.hasZone 16 → ¬ chained →
        (2048 < d.allocation.sum → imageFailure m = some .allocation) ∧
        (d.allocation.sum ≤ 2048 → doubled → imageFailure m = some .slotConflict) ∧
        (d.allocation.sum ≤ 2048 → ¬ doubled → imageFailure m = none)))

/-- R26, R28, R80, R141, R144, R171, R190, R191: at the end of the second pass the image's plans stand in both
ranks of every area, its distances and temperature are in force with every pair dirty, its slot map, allocation,
programmes, enable, group filter, home modes and unit key are installed, every line is zero, the areas that start
awake are woken unless the unit is in standby, and IMAGE_LOADED reports their number, or POWER_UP the outcome
IMAGE. Every area is DORMANT before it (R189). FALLBACK_INSTALL puts the fallback plan (the factory plan with P0
to P7 as SPEECH members and Z0 to Z7 as zones) in both ranks of A0 and wakes it, makes Z0 to Z7 LIVE at home, and
POWER_UP reports the outcome FALLBACK. -/
def Obligations.SecondPassAndFallbackInstall : Prop :=
  (∀ (s : State) (l : Load), s.quietAtBoundary → s.areas.length = 6 → s.lines.length = 7 →
    s.zones.length = 16 → s.load = some l → l.second = true → l.timer.started = true →
    l.timer.remaining ≤ 1 → s.early.contains .loadPass = false →
    (∀ a < 6, (s.area a).service = .dormant) →
    let d := s.image.data
    let t := s.loadSecondPassEnd
    let wakes (a : Nat) : Bool := (d.plans.getD a Plan.factory).startAwake && !s.standby
    exec .imageLoadSecondPassEnd s = .next t.flushPosts ∧ t.load = none ∧
      (∀ a < 6, (t.area a).live = d.plans.getD a Plan.factory ∧
        (t.area a).staged = d.plans.getD a Plan.factory ∧ (t.area a).stagedState = .clean ∧
        (t.area a).service = if wakes a then .inService else .dormant) ∧
      t.delay = { s.delay with
        distances := d.distances, requested := d.temperature, used := d.temperature,
        dirty := List.range 384 } ∧
      t.slotMap = ⟨d.positionSlots, d.zoneSlots, d.announceSlot, s.slotMap.sense⟩ ∧
      (∀ k < 7, (t.line k).length = d.allocation.getD k 0 ∧ (t.line k).faulted = (s.line k).faulted) ∧
      t.cells = [] ∧ t.overrideEnable = d.enable ∧ t.link.groups = d.groups ∧
      (∀ l ∈ oLines, (t.ov l).programme = d.programmes.get l) ∧
      (t.ov .evac).programme = { (s.ov .evac).programme with
        source := d.programmes.evac.source, position := d.programmes.evac.position
        gain := d.programmes.evac.gain } ∧
      (∀ z < 16, (t.zone z).home = d.homes.getD z .off) ∧ t.unitKey = d.unitKey ∧
      t.outcome = (if l.powerUp then .image else s.outcome) ∧
      t.posts.getLast? = some (if l.powerUp then ⟨.engine, .powerUp, 0, [f2 0], s.link.counter⟩
        else ⟨.engine, .imageLoaded, 0, [f2 ((List.range 6).filter wakes).length], s.link.counter⟩)) ∧
  ∀ s : State, s.quietAtBoundary → s.areas.length = 6 → s.zones.length = 16 → s.fallbackDue = true →
    let plan : Plan := { Plan.factory with
      members := (List.range 8).map fun p => ⟨p, .speech, 0⟩
      zones := (List.range 8).map fun z => ⟨z, 0⟩ }
    let t := s.installFallback
    exec .fallbackInstall s = .next t.flushPosts ∧ t.fallbackDue = false ∧ t.outcome = .fallback ∧
      (t.area 0).live = plan ∧ (t.area 0).staged = plan ∧ (t.area 0).stagedState = .clean ∧
      (t.area 0).service = .inService ∧ (t.area 0).lead = ⟨0, .rest⟩ ∧
      (∀ a, a ≠ 0 → (t.area a).live = (s.area a).live ∧ (t.area a).service = (s.area a).service) ∧
      (∀ z < 8, (t.zone z).home = .live) ∧ (∀ z < 16, 8 ≤ z → (t.zone z).home = (s.zone z).home) ∧
      t.posts.getLast? = some ⟨.engine, .powerUp, 0, [f2 1], s.link.counter⟩

/-- R102, R108, R115, R117, R120, R130: the end of a fade-out toward OFF begins a settle of 16 blocks in QUIET,
any other is the switch to the next mode; a settle that ends toward OFF leaves the zone OFF, any other is the
switch; at the switch QUIET is steady, TEST and ANNOUNCE fade in from 0 over the length of the change, and LIVE
does so when its goal is sounding; the end of a fade-in leaves the zone steady. A zone that leaves ANNOUNCE has
no entered holder and is off the bypass, one that leaves TEST loses its insert, and one that enters ANNOUNCE has
the holder as its own. No other zone is touched. The rows take the next mode of the last boundary, the model's
reading (log entry 6); that a short change into ANNOUNCE fades in over 384 samples whoever the holder is its choice
(log entry 42). -/
def Obligations.ZoneEventsFollowTheChange : Prop :=
  ∀ (s : State) (z : Nat), s.quietAtBoundary → s.zones.length = 16 → z < 16 →
    let r := s.zone z
    let left : Zone := { r with
      entered := if r.current = .announce then none else r.entered
      bypass := r.bypass && r.current != .announce, insert := r.insert && r.current != .test }
    let switched (t : State) (x : Mode) : Prop :=
      let fades : Bool := x == .test || x == .announce || (x == .live && s.sounding z)
      t.zone z = { left with
        current := x, next := none, settleCount := 0, progress := 0
        phase := if fades then .fadeIn else .steady
        length := if fades then (if r.short then 384 else 1536) else r.length
        short := r.short && fades
        entered := if x = .announce then s.holder else left.entered
        announceTap := (t.zone z).announceTap
        bypass := if x = .announce then (s.line 6).faulted else left.bypass
        generator := if x = .test then 1 else r.generator } ∧
      (x ≠ .announce → (t.zone z).announceTap = r.announceTap) ∧
      (x = .announce → (t.zone z).announceTap = if (s.line 6).faulted then 0 else
        limitTap (s.line 6).length (s.holderCopy.elim 0 fun p => s.rawAnnounceTap p z))
    let others (t : State) : Prop := ∀ y, y ≠ z → t.zone y = s.zone y
    (r.phase = .fadeOut → r.progress = 0 →
      (r.next = some .off → ∃ t, exec (.fadeOutEnd z) s = .next t ∧ others t ∧
        t.zone z = { left with current := .quiet, phase := .settle, settleKind := .enteringOff,
                               settleCount := 16, next := some .off, progress := 0 }) ∧
      (∀ x, r.next = some x → x ≠ .off →
        ∃ t, exec (.fadeOutEnd z) s = .next t ∧ others t ∧ switched t x)) ∧
    (r.phase = .settle → r.settleCount ≤ 1 → s.early.contains (.settle z) = false →
      (r.next = some .off → ∃ t, exec (.settleEnd z) s = .next t ∧ others t ∧
        t.zone z = { r with current := .off, phase := .steady, next := none, settleCount := 0,
                            short := false }) ∧
      (∀ x, r.next = some x → x ≠ .off →
        ∃ t, exec (.settleEnd z) s = .next t ∧ others t ∧ switched t x)) ∧
    (r.phase = .fadeIn → r.length ≤ r.progress → ∃ t, exec (.fadeInEnd z) s = .next t ∧ others t ∧
      t.zone z = { r with phase := .steady, short := false })

/-! ## Overrides and power -/

/-- R150, R151, R153: a countdown that stands at its last block turns its ACTIVE override ENDING and is
dropped, a tail only while its contact is inactive; the ENDING holder is released, with its copy dropped and
OVERRIDE_ENDED posted, once no zone is in ANNOUNCE and no override requests the bus. R141, R144: ahead of a
boundary the requests are those that its samples leave, and where an image load has replaced programmes and enable
at the boundary they are judged under those that governed the lines until then; while one stands, OVERRIDE_RELEASE
changes nothing. That its command may take the release ahead of the boundary, or right after it, is the model's
choice (log entry 6). -/
def Obligations.CountdownAndRelease : Prop :=
  (∀ (s : State) (l : OvLine) (v : Nat), s.quietAtBoundary → s.holder = some l → l ≠ .evac →
    (s.ov l).state = .active → (s.ov l).countdown = .running v → v ≤ 1 →
    ((s.ov l).trigger = .edge ∧ s.early.contains .loaded = false) ∨
      ((s.ov l).trigger = .level ∧ contactOf s.contacts l = false) →
    exec .countdownExpiry s = .next
      { s with
        overrides := s.overrides.set l { s.ov l with state := .ending, countdown := .none }
        early := .turned :: s.early }) ∧
  ∀ (s : State) (l : OvLine), s.quiet → s.holder = some l → (s.ov l).state = .ending →
    (∀ r ∈ s.zones, r.current ≠ .announce) → s.early.contains .turned = false →
    s.link.inBlock = 0 ∨ s.link.inBlock = 48 →
    let governed := match s.early.findSome? fun
        | .settings enable ps => some (enable, ps)
        | _ => none with
      | none => s
      | some (enable, ps) => State.setProgrammes { s with overrideEnable := s.overrideEnable && enable } ps
    let asks (m : OvLine) : Bool :=
      if s.link.inBlock = 48 then governed.sampleLines.requesting m else governed.requesting m
    ((∀ m, asks m = false) →
      exec .overrideRelease s = .next (State.flushPosts (State.post
        { s with
          holder := none
          overrides := s.overrides.set l { s.ov l with state := .idle, copy := none, countdown := .none } }
        .overrides .overrideEnded l.code [f2 0]))) ∧
    ((∃ m, asks m = true) → exec .overrideRelease s = .next s)

/-- R142, R145, R162, R176, R188, R191, R196: a power-up reset gives every block its power-up values under the
straps, takes the contacts as the first and the previous sample of each line, and starts EVAC, over all
sixteen zones, when its contact is active; loss of power ends everything until then. Either leaves a save that it
cut short with the format mark and a sum that does not match; that it holds the save's copy, and that the queue
of commands and the free values' counter go on, is the model's reading (log entry 24). -/
def Obligations.PowerComesAndGoes : Prop :=
  (∀ (s : State) (straps : Straps) (contacts : Contacts),
    let cut : ImageMemory := match s.save with
      | none => s.image
      | some v => ⟨(165, 28), false, v.copy⟩
    (∃ t, exec (.powerUpReset straps contacts) s = .next t ∧ t.image = cut ∧ t.save = none) ∧
    (contacts.evac = false → ∃ t, exec (.powerUpReset straps contacts) s = .next t ∧
      t = { State.reset with
        pending := s.pending, choices := s.choices, image := cut, contacts := contacts,
        fallbackStrap := straps.fallback, fallbackDue := straps.fallback,
        load := if straps.fallback then none else some ⟨⟨200, false⟩, false, true⟩,
        link := { State.reset.link with address := straps.address }, overrides := t.overrides } ∧
      ∀ l, t.ov l = { State.reset.ov l with
        sample := contactOf contacts l, previous := contactOf contacts l }) ∧
    (contacts.evac = true → ∃ t, exec (.powerUpReset straps contacts) s = .next t ∧
      t.holder = some .evac ∧ (t.ov .evac).latch = true ∧ (t.ov .evac).state = .active ∧
      (t.ov .evac).copy = some Programme.factoryEvac ∧ Programme.factoryEvac.targets = 0xFFFF#16 ∧
      t.status.evac = true ∧ (∀ l, l ≠ .evac → (t.ov l).state = .idle) ∧
      t.queue.map Entry.kind = [145#8])) ∧
  ∀ s : State, exec .lossOfPower s = .next
    { s with
      powered := false, save := none,
      image := match s.save with
        | none => s.image
        | some v => ⟨(165, 28), false, v.copy⟩ }

/-! ## Requests that read and report -/

/-- R16, R68, R138, R182, R197: a read answers DONE with the values that stand, in the order of its rule, and
changes nothing; READ STATUS does so in an engine-wide busy period too. READ DISTANCES and READ PROVING are BUSY
during an AUDIO reset or an allocation clear; while the power-up sequence alone reads the image, where R68 and R138
disagree with R180, they are BUSY or answered (log entry 35). A part, position, area or rank that
is not listed is REFUSED_RANGE. The widths of values that no request carries, and the marks of the zones as two sets,
are the model's (log entry 11). -/
def Obligations.ReadsAnswerWhatStands : Prop :=
  ∀ (s : State) (p : Packet), s.quiet →
    (s.mustDrop p = false →
      let r := s.status
      (p.body = [0] → exec (.readStatus p) s = s.answer 1 p .done ([
        f1 (bitsOf [r.keyFault, r.slipOver, r.slipUnder, r.chain, r.proving, r.outQueueFull, r.evac]),
        f2 r.tapClamped.toNat, ⟨4, r.presence.toNat⟩, ⟨4, r.clip.toNat⟩, f1 r.takeFailed.toNat,
        f1 r.lead.toNat, f1 r.takeApplied.toNat, f1 r.retune.toNat, f1 r.override.toNat,
        f1 (bitsOf (s.lines.map DelayLine.faulted)), f2 r.crcDrops, f2 r.requestsDropped,
        f2 r.noticesDropped, f2 r.keyFaults, f2 r.slipsOver, f2 r.slipsUnder] ++
        (r.busClips.map fun n => f2 n) ++ [f1 s.queue.length, f1 s.sequence.toNat])) ∧
      (p.body = [1] → exec (.readStatus p) s = s.answer 1 p .done
        ((r.clips ++ r.zoneClips).map fun n => f2 n)) ∧
      (∀ b : Byte, p.body = [b] → 2 ≤ b.toNat →
        exec (.readStatus p) s = s.answer 1 p .refusedRange [f1 0])) ∧
    (let v := s.proving
    let d := s.delay
    let proving (u : State) : Host.Outcome State Fault Refusal := u.answer 20 p .done [f1 v.state.code,
      fo (v.assignment.map Prod.fst), fo (v.assignment.map Prod.snd), f2 v.errors, f2 v.level,
      f1 v.shadow.length, f1 v.confirmed, f1 v.progress, f1 v.mismatches,
      f2 (bitsOf (s.zones.map fun z => z.current == .test)), f2 (bitsOf (s.zones.map Zone.insert))]
    let distances (u : State) (q : Byte) : Host.Outcome State Fault Refusal :=
      if q.toNat < 24 then u.answer 12 p .done ([f2 d.requested, f2 d.used, f2 (speedOfSound d.used),
          f2 d.dirty.length, f2 d.pointer] ++ (List.range 16).flatMap fun z =>
        let i := 16 * q.toNat + z
        [f2 ((d.distances.getD i none).getD 65535 : Nat), f2 (d.delays.getD i 0 : Nat),
          fb (d.dirty.contains i)])
      else u.answer 12 p .refusedRange [f1 0]
    let clearing : Bool := s.audioReset.any Timer.started || s.allocClear.any Timer.started
    let next := { s with choices := s.choices + 1 }
    s.mustDrop p = false →
      (s.engineBusy = false → (p.body = [] → exec (.readProving p) s = proving s) ∧
        ∀ q : Byte, p.body = [q] → exec (.readDistances p) s = distances s q) ∧
      (clearing = true → (p.body = [] → exec (.readProving p) s = s.answer 20 p .busy []) ∧
        ∀ q : Byte, p.body = [q] → exec (.readDistances p) s = s.answer 12 p .busy []) ∧
      (clearing = false → s.engineBusy = true →
        (p.body = [] → exec (.readProving p) s = next.answer 20 p .busy [] ∨
          exec (.readProving p) s = proving next) ∧
        ∀ q : Byte, p.body = [q] → exec (.readDistances p) s = next.answer 12 p .busy [] ∨
          exec (.readDistances p) s = distances next q)) ∧
    (s.open_ p →
      ∀ a rank part : Byte, p.body = [a, rank, part] →
        let r := s.area a.toNat
        let plan := if rank = 0 then r.staged else r.live
        let head := [f1 r.service.code, f1 r.restCount, f1 r.stagedState.code]
        (6 ≤ a.toNat ∨ 2 ≤ rank.toNat ∨ 3 ≤ part.toNat →
          exec (.readPlan p) s = s.answer 6 p .refusedRange [f1 0]) ∧
        (a.toNat < 6 → rank.toNat < 2 →
          (part = 0 → exec (.readPlan p) s = s.answer 6 p .done (head ++ f1 plan.members.length ::
            plan.members.flatMap fun m => [f1 m.position, f1 m.kind.code, ⟨1, m.trim⟩])) ∧
          (part = 1 → exec (.readPlan p) s = s.answer 6 p .done (head ++ f1 plan.zones.length ::
            plan.zones.flatMap fun e => [f1 e.zone, f2 e.gain])) ∧
          (part = 2 → exec (.readPlan p) s = s.answer 6 p .done (head ++ [f2 plan.areaKey.toNat,
            f1 plan.rest, fo plan.ensemble] ++
            ((List.range 14).map fun c => f2 (plan.numeric (c + 8))) ++
            [fo plan.join, fb plan.startAwake]))))

/-- R39, R63, R105, R183, R192: READ MONITOR answers a listed subject with DONE and that subject's values, changing
nothing, in an engine-wide busy period too; any other subject is REFUSED_RANGE. The values of a position, the
local port, the lines, and of an area ahead of its member records, are written out. The widths and the layout of
these values are the model's choice (log entry 11). Where an area's values need more than a body holds, those ahead
of its records are sent in their places and what follows is free, which is the model's choice (log entry 12). That
the mark of the L6 bypass is the fault flag of L6 is the model's choice (log entry 37). -/
def Obligations.MonitorAnswersItsSubjects : Prop :=
  ∀ (s : State) (p : Packet) (b : Byte), s.quiet → s.mustDrop p = false → p.body = [b] →
    (∀ fs, s.monitorValues b.toNat = some fs →
      ((fs.map Field.bytes).sum ≤ 115 → exec (.readMonitor p) s = s.answer 4 p .done fs) ∧
      (115 < (fs.map Field.bytes).sum → ∃ bytes : List Byte,
        ((s.monitorHead b.toNat).map Field.bytes).sum + bytes.length ≤ 115 ∧
        exec (.readMonitor p) s = State.answer { s with choices := s.choices + 1 } 4 p .done
          (s.monitorHead b.toNat ++ bytes.map fun x => f1 x.toNat))) ∧
    (32 ≤ b.toNat → b.toNat < 38 →
      let a := b.toNat - 32
      let r := s.area a
      s.monitorHead b.toNat = [f1 r.service.code, f1 r.restCount, fo r.live.join, fb (s.running a), f1 r.nom,
        f2 (attenuation r.nom), f2 r.speechTop, f2 r.ensembleLevel, f2 (s.status.busClips.getD a 0 : Nat),
        f1 r.lead.position, f1 r.lead.source.code, f2 r.leadLevel] ++
        (match r.challenger with
          | none => [f1 255, f1 255, f2 0]
          | some c => [f1 c.lead.position, f1 c.lead.source.code, f2 c.count]) ++ [f1 r.records.length] ∧
      ∃ rest, s.monitorValues b.toNat = some (s.monitorHead b.toNat ++ (r.records.flatMap fun m =>
        [f1 m.position, f1 m.kind.code, f1 (s.channel m.position).presence.code, f2 m.s, f2 m.f, f1 m.rise,
          f1 m.gate.code, f2 m.hold, f2 m.t, f2 m.g]) ++ rest)) ∧
    (s.monitorValues b.toNat = none → exec (.readMonitor p) s = s.answer 4 p .refusedRange [f1 0]) ∧
    ((s.monitorValues b.toNat).isSome = true ↔
      b.toNat < 26 ∨ (32 ≤ b.toNat ∧ b.toNat < 38) ∨ (48 ≤ b.toNat ∧ b.toNat < 68)) ∧
    (b.toNat < 24 →
      let c := s.channel b.toNat
      s.monitorValues b.toNat = some [fo (s.slotMap.positions.getD b.toNat none), f1 c.presence.code,
        f1 (c.history.count true), f1 c.run, f2 c.level, fb (s.status.clip.getLsbD b.toNat),
        f2 (s.status.clips.getD b.toNat 0 : Nat)]) ∧
    (b = 25 →
      let t := s.port
      s.monitorValues b.toNat = some [f1 t.depth, f1 t.presence.code, f1 t.silent, f1 t.store.length,
        f2 s.status.slipsOver, f2 s.status.slipsUnder, fb s.status.slipOver, fb s.status.slipUnder]) ∧
    (b = 64 →
      s.monitorValues b.toNat = some (((List.range 7).flatMap fun k =>
        [f2 (s.line k).length, f2 ((s.lines.take k).map DelayLine.length).sum, fb (s.line k).faulted,
          fb (s.flush.any fun f => f.1 == k),
          f1 (s.flush.elim 0 fun f => if f.1 = k then f.2.remaining else 0)]) ++
        [fb (s.line 6).faulted, fb s.allocClear.isSome, f1 (s.allocClear.elim 0 Timer.remaining)]))

/-- R182, R185, R194: CLEAR STATUS clears every flag but LINE_FAULT and EVAC and every counter; SET NOTICE
MASK stores its three fields, the marks of LINE_FAULT, EVAC_STATE and FATAL as 0, and clears the flags of the
kinds it marks; an address or a code that is not listed is REFUSED_RANGE. That marks of LINE_FAULT
(bit 16) and EVAC_STATE (bit 17) clear nothing is the model's reading (log entry 21). -/
def Obligations.StatusIsClearedAndMasked : Prop :=
  ∀ (s : State) (p : Packet), s.quiet → s.open_ p →
    (p.body = [] → exec (.clearStatus p) s =
      State.answer { s with status := { Status.clear with evac := s.status.evac } } 2 p .done []) ∧
    ∀ k3 k2 k1 k0 cats addr : Byte, p.body = [k3, k2, k1, k0, cats, addr] →
      let m := ((k3.toNat * 256 + k2.toNat) * 256 + k1.toNat) * 256 + k0.toNat
      let r := s.status
      (2 ^ 25 ≤ m ∨ 64 ≤ cats.toNat ∨ 64 ≤ addr.toNat →
        exec (.setNoticeMask p) s = s.answer 3 p .refusedRange [f1 0]) ∧
      (m < 2 ^ 25 → cats.toNat < 64 → addr.toNat < 64 →
        ∃ t, exec (.setNoticeMask p) s = State.answer t 3 p .done
            [⟨4, t.kindMask.toNat⟩, f1 t.suppress.toNat, f1 t.reporting.toNat] ∧
          (∀ n < 25, t.kindMask.getLsbD n = (m.testBit n && n != 16 && n != 17)) ∧
          (∀ n < 6, t.suppress.getLsbD n = (cats.getLsbD n && n != 5)) ∧
          t.reporting.toNat = addr.toNat ∧
          t.status = { r with
            keyFault := r.keyFault && !m.testBit 0
            tapClamped := if m.testBit 1 then 0 else r.tapClamped
            presence := if m.testBit 2 then 0 else r.presence
            clip := if m.testBit 3 then 0 else r.clip
            slipOver := r.slipOver && !m.testBit 4
            slipUnder := r.slipUnder && !m.testBit 4
            chain := r.chain && !(m.testBit 5 || m.testBit 6)
            proving := r.proving && !(m.testBit 7 || m.testBit 8)
            takeFailed := if m.testBit 9 then 0 else r.takeFailed
            lead := if m.testBit 10 then 0 else r.lead
            takeApplied := if m.testBit 11 then 0 else r.takeApplied
            retune := if m.testBit 12 then 0 else r.retune
            override := if m.testBit 13 || m.testBit 14 || m.testBit 15 then 0 else r.override } ∧
          t = { s with
            kindMask := t.kindMask, suppress := t.suppress, reporting := t.reporting, status := t.status })

/-! ## Plans and service -/

/-- R12, R13, R15, R22: an item whose structural values are in range keeps every value of a plan in its range and
its lists in their order; ADD MEMBER leaves the other entries and the new one, REMOVE takes out its entry
alone, and a numeric item sets its own field, clamped, and no other. WRITE PLAN, with the live area key, is
refused while a take is held, or at the first item out of range, with nothing applied; else it applies its items
in order to the staged rank alone, which is then EDITED, and answers CLAMPED or DONE. That a request that names
no area is answered with place 0, and that value bytes without a meaning are not looked at, is the model's choice
(log entries 11, 56). -/
def Obligations.PlanEditsKeepTheRanges : Prop :=
  (∀ (a : Nat) (plan : Plan) (item : List Byte), planInRange a plan = true → itemOk a item = true →
    planInRange a (applyItem plan item).1 = true) ∧
  (∀ (plan : Plan) (q kind trim : Byte), q.toNat < 24 → kind.toNat < 2 →
    let r := (applyItem plan [1, q, kind, trim]).1
    let others (l : List Member) := l.filter fun m => m.position != q.toNat
    others r.members = others plan.members ∧
    ⟨q.toNat, if kind = 0 then .speech else .ensemble, max (-96) (min 96 trim.toInt)⟩ ∈ r.members ∧
    r = { plan with members := r.members } ∧
    (applyItem plan [1, q, kind, trim]).2 = decide (trim.toInt < -96 ∨ 96 < trim.toInt)) ∧
  (∀ (plan : Plan) (q x y : Byte), (applyItem plan [2, q, x, y]).1 =
    { plan with members := plan.members.filter fun m => m.position != q.toNat }) ∧
  (∀ (plan : Plan) (z hi lo : Byte), z.toNat < 16 →
    let r := (applyItem plan [3, z, hi, lo]).1
    let others (l : List ZoneEntry) := l.filter fun e => e.zone != z.toNat
    others r.zones = others plan.zones ∧
    ⟨z.toNat, max (-480) (min 48 (hi ++ lo : BitVec 16).toInt)⟩ ∈ r.zones ∧
    r = { plan with zones := r.zones }) ∧
  (∀ (plan : Plan) (z x y : Byte), (applyItem plan [4, z, x, y]).1 =
    { plan with zones := plan.zones.filter fun e => e.zone != z.toNat }) ∧
  (∀ (plan : Plan) (code x hi lo : Byte) (low high : Int), numericRange code.toNat = some (low, high) →
    let r := applyItem plan [code, x, hi, lo]
    let v := (hi ++ lo : BitVec 16).toInt
    r.1.numeric code.toNat = max low (min high v) ∧
    (∀ c, c ≠ code.toNat → r.1.numeric c = plan.numeric c) ∧
    r.1.areaKey = plan.areaKey ∧ r.1.members = plan.members ∧ r.1.zones = plan.zones ∧
    r.1.rest = plan.rest ∧ r.1.ensemble = plan.ensemble ∧ r.1.join = plan.join ∧
    r.1.startAwake = plan.startAwake ∧ r.2 = decide (v < low ∨ high < v)) ∧
  ∀ (s : State) (p : Packet) (a : Byte) (items : List (List Byte)), s.quiet →
    p.body = a :: items.flatten → (∀ i ∈ items, i.length = 4) → 1 ≤ items.length → items.length ≤ 12 →
    (6 ≤ a.toNat → s.open_ p → exec (.writePlan p) s = s.answer 5 p .refusedRange [f1 0]) ∧
    (a.toNat < 6 → s.admits p (s.area a.toNat).live.areaKey →
      let r := s.area a.toNat
      (r.stagedState = .held → exec (.writePlan p) s = s.answer 5 p .refusedPending []) ∧
      (r.stagedState ≠ .held →
        (∀ (before after : List (List Byte)) (bad : List Byte), items = before ++ bad :: after →
          (∀ i ∈ before, itemOk a.toNat i = true) → itemOk a.toNat bad = false →
          exec (.writePlan p) s = s.answer 5 p .refusedRange [f1 (before.length + 1)]) ∧
        ((∀ i ∈ items, itemOk a.toNat i = true) →
          ∃ code, exec (.writePlan p) s = State.answer
              { s with areas := s.areas.modify a.toNat fun x =>
                  { x with
                    staged := items.foldl (fun q i => (applyItem q i).1) x.staged
                    stagedState := .edited } } 5 p code [] ∧
            (code = .done ∨ code = .clamped) ∧
            (items.length = 1 → (code = .clamped ↔ (applyItem r.staged (items.getD 0 [])).2 = true)))))

/-- R18, R20, R21, R22: TAKE is refused while one is held; is held for an IN_SERVICE area or during an image
save or load; and else is validated at once, becoming the live plan, or refused with the reason and subject.
A plan is valid when no other area's live plan has one of its members or zones and its join makes no chain. -/
def Obligations.TakeFollowsTheServiceState : Prop :=
  (∀ (s : State) (a : Nat) (plan : Plan), a < 6 →
    (s.validate a plan = none ↔
      (∀ b < 6, b ≠ a →
        (∀ q < 24, plan.hasMember q = true → (s.area b).live.hasMember q = false) ∧
        ∀ z < 16, plan.hasZone z = true → (s.area b).live.hasZone z = false) ∧
      ∀ b, plan.join = some b → (s.area b).live.join = none ∧
        ∀ c < 6, c ≠ a → (s.area c).live.join ≠ some a)) ∧
  ∀ (s : State) (p : Packet) (a : Byte), s.quiet → s.areas.length = 6 → p.body = [a] →
    (6 ≤ a.toNat → s.open_ p → exec (.take p) s = s.answer 7 p .refusedRange [f1 0]) ∧
    (a.toNat < 6 → s.admits p (s.area a.toNat).live.areaKey →
      let r := s.area a.toNat
      (r.stagedState = .held → exec (.take p) s = s.answer 7 p .refusedPending []) ∧
      (r.stagedState ≠ .held → r.service = .inService ∨ s.save.isSome = true ∨ s.load.isSome = true →
        exec (.take p) s = State.answer
          { s with areas := s.areas.modify a.toNat fun x => { x with stagedState := .held } } 7 p .held []) ∧
      (r.stagedState ≠ .held → r.service = .dormant → s.save = none → s.load = none →
        (∀ reason subject, s.validate a.toNat r.staged = some (reason, subject) →
          exec (.take p) s = s.answer 7 p .refusedConflict [f1 reason.code, f1 subject]) ∧
        (s.validate a.toNat r.staged = none → ∃ t, exec (.take p) s = State.answer t 7 p .done [] ∧
          (t.area a.toNat).live = r.staged ∧ (t.area a.toNat).staged = r.staged ∧
          (t.area a.toNat).stagedState = .clean ∧ (t.area a.toNat).service = .dormant ∧
          (∀ b, b ≠ a.toNat → (t.area b).live = (s.area b).live ∧ (t.area b).staged = (s.area b).staged ∧
            (t.area b).stagedState = (s.area b).stagedState ∧ (t.area b).service = (s.area b).service) ∧
          t = { s with areas := t.areas, zones := t.zones })))

/-- R17: DISCARD copies the whole live rank over the staged rank and sets CLEAN, from every staged state, with
reply DONE; a transition under way goes on, but a dip under way for the take it removes has lost it: its midpoint
leaves every live plan, also where a further take is held by then (R94). From CLEAN, where the ranks are equal
(R14), it changes nothing. -/
def Obligations.DiscardRestoresTheLiveRank : Prop :=
  (∀ (s : State) (p : Packet) (a : Byte), s.quiet → p.body = [a] →
    (6 ≤ a.toNat → s.open_ p → exec (.discard p) s = s.answer 8 p .refusedRange [f1 0]) ∧
    (a.toNat < 6 → s.admits p (s.area a.toNat).live.areaKey →
      let lost (x : Transition) : Bool := (s.area a.toNat).stagedState == .held &&
        x.kind == .dip a.toNat && !x.midDone
      exec (.discard p) s = State.answer
        { s with areas := (s.areas.map fun r => { r with transition := r.transition.map fun x =>
            { x with withdrawn := x.withdrawn || lost x } }).modify a.toNat fun r =>
          { r with staged := r.live, stagedState := .clean } }
        8 p .done [] ∧
      ((s.area a.toNat).stagedState = .clean → (s.area a.toNat).staged = (s.area a.toNat).live →
        exec (.discard p) s = s.answer 8 p .done [])) ∧
    (a.toNat < 6 → s.open_ p → (s.area a.toNat).live.areaKey ≠ 0 →
      (s.area a.toNat).live.areaKey ≠ p.key → exec (.discard p) s = State.answer (State.post
        { s with status := { s.status with keyFaults := min (s.status.keyFaults + 1) 65535 } }
        .engine .keyFault p.source.toNat [f2 8]) 8 p .refusedKey [])) ∧
  ∀ (s : State) (b a : Nat) (tr : Transition), s.quietAtBoundary →
    (s.area b).transition = some tr → tr.kind = .dip a → 768 ≤ tr.progress → tr.midDone = false →
    (s.area a).stagedState ≠ .held ∨ tr.withdrawn = true → ∃ t tr', exec (.dipMidpoint b) s = .next t ∧
      (∀ c, (t.area c).live = (s.area c).live ∧ (t.area c).stagedState = (s.area c).stagedState) ∧
      (t.area b).transition = some tr' ∧ tr'.length = tr.length ∧ tr'.progress = tr.progress

/-- R8, R58, R98: WAKE AREA by the area's state: an image load in flight is BUSY, standby REFUSED_STATE;
a DORMANT area is put IN_SERVICE with its rest position as lead and its zones' taps formed from it; a running
rest fade is cancelled and the lead kept; an area already IN_SERVICE is as it was. -/
def Obligations.WakePutsAnAreaInService : Prop :=
  ∀ (s : State) (p : Packet) (a : Byte), s.quiet → p.body = [a] →
    (6 ≤ a.toNat → s.open_ p → exec (.wakeArea p) s = s.answer 9 p .refusedRange [f1 0]) ∧
    (a.toNat < 6 → s.areas.length = 6 → s.zones.length = 16 → s.admits p (s.area a.toNat).live.areaKey →
      let r := s.area a.toNat
      (r.service = .inService → exec (.wakeArea p) s =
        if r.restCount = 0 then s.answer 9 p .done []
        else State.answer { s with areas := s.areas.modify a.toNat fun x =>
          { x with restCount := 0, decisionDue := true } } 9 p .done []) ∧
      (r.service = .dormant → s.load.isSome = true → exec (.wakeArea p) s = s.answer 9 p .busy []) ∧
      (r.service = .dormant → s.load = none → s.standby = true →
        exec (.wakeArea p) s = s.answer 9 p .refusedState []) ∧
      (r.service = .dormant → s.load = none → s.standby = false →
        ∃ t, exec (.wakeArea p) s = State.answer t 9 p .done [] ∧
          (t.area a.toNat).service = .inService ∧ (t.area a.toNat).restCount = 0 ∧
          (t.area a.toNat).lead = ⟨r.live.rest, .rest⟩ ∧ (t.area a.toNat).challenger = none ∧
          (t.area a.toNat).pendingRequest = false ∧ (t.area a.toNat).live = r.live ∧
          (t.area a.toNat).staged = r.staged ∧ (t.area a.toNat).stagedState = r.stagedState ∧
          (∀ b, b ≠ a.toNat → (t.area b).service = (s.area b).service ∧ (t.area b).live = (s.area b).live ∧
            (t.area b).lead = (s.area b).lead) ∧
          (r.live.join = none → ∀ e ∈ r.live.zones, e.zone < 16 → (t.zone e.zone).tap =
            some (limitTap (s.line a.toNat).length
              (s.delay.delays.getD (16 * r.live.rest + e.zone) 0 + r.live.precedence.toNat))) ∧
          t = { s with areas := t.areas, zones := t.zones, status := t.status, posts := t.posts }))

/-- R9, R98, R119: REST AREA on an IN_SERVICE area with no rest fade loads the count with 32, abandons the
transitions of the area and of those joined to it, clears its pending request, keeps its lead and a held take,
and starts the fade to silence of its LIVE zones that sound, to end with the count: from the progress each has,
one in the first half of a dip carrying its dip weight into it, rescaled to the frames that are left. A zone that
already fades to silence begins that fade anew. In any other case it is DONE with no change. That a zone's wanted
mode is that of the last boundary is the model's reading (log entry 21). -/
def Obligations.RestBeginsTheFade : Prop :=
  ∀ (s : State) (p : Packet) (a : Byte), s.quiet → p.body = [a] →
    (6 ≤ a.toNat → s.open_ p → exec (.restArea p) s = s.answer 10 p .refusedRange [f1 0]) ∧
    (a.toNat < 6 → s.areas.length = 6 → s.zones.length = 16 → s.admits p (s.area a.toNat).live.areaKey →
      let r := s.area a.toNat
      let cut (b : Nat) : Prop := b = a.toNat ∨ (s.area b).live.join = some a.toNat
      let dips (k : TransitionKind) : Bool := match k with
        | .dip _ => true
        | .crossfade _ => false
      let carried (z : Nat) : Prop := ∃ b < 6, cut b ∧ ∃ x ∈ (s.area b).transition, x.midDone = false ∧
        dips x.kind = true ∧ ∃ f ∈ x.zones, f.zone = z
      (r.service = .dormant ∨ r.restCount ≠ 0 → exec (.restArea p) s = s.answer 10 p .done []) ∧
      (r.service = .inService → r.restCount = 0 → ∃ t, exec (.restArea p) s = State.answer t 10 p .done [] ∧
        (t.area a.toNat).restCount = 32 ∧ (t.area a.toNat).service = .inService ∧
        (t.area a.toNat).transition = none ∧ (t.area a.toNat).pendingRequest = false ∧
        (t.area a.toNat).lead = r.lead ∧ (t.area a.toNat).stagedState = r.stagedState ∧
        (t.area a.toNat).staged = r.staged ∧ (t.area a.toNat).live = r.live ∧
        (∀ b < 6, b ≠ a.toNat → (s.area b).live.join = some a.toNat → (t.area b).transition = none) ∧
        (∀ b, b ≠ a.toNat → (t.area b).service = (s.area b).service ∧ (t.area b).live = (s.area b).live ∧
          (t.area b).lead = (s.area b).lead ∧ (t.area b).restCount = (s.area b).restCount) ∧
        (∀ z < 16, s.zoneArea z = some a.toNat ∨ s.steeringArea z = some a.toNat →
          (s.zone z).current = .live → (s.zone z).wanted = .live → (s.zone z).changing = false →
          0 < (s.zone z).progress →
          (∀ b < 6, ∀ c < 6, s.affectedOn b z ≠ none → s.affectedOn c z ≠ none → b = c) →
          let m := 1536 - s.link.inBlock
          (t.zone z).phase = .fadeOut ∧ (t.zone z).next = none ∧ (t.zone z).current = .live ∧
          (t.zone z).length = m ∧
          (carried z → (t.zone z).progress =
            let j := (s.zone z).progress * (s.zone z).dipWeight / 4096
            if (s.zone z).length = m then j else j * m / (s.zone z).length) ∧
          (¬ carried z → (t.zone z).progress =
            let j := (s.zone z).progress
            if (s.zone z).length = m then j else j * m / (s.zone z).length)) ∧
        (∀ z < 16, (s.zone z).current ≠ .live → (t.zone z).current = (s.zone z).current ∧
          (t.zone z).phase = (s.zone z).phase ∧ (t.zone z).progress = (s.zone z).progress) ∧
        t = { s with areas := t.areas, zones := t.zones }))

/-! ## Geometry, lines, zones and proving -/

/-- R67, R69, R73: WRITE DISTANCES writes its entries in order, clamped to 20,000 cm, and marks each pair dirty,
or is refused at the first entry out of range; SET AIR TEMPERATURE clamps its value into T_req and, from 5
tenths away on, takes it into use with all 384 pairs dirty. -/
def Obligations.DistancesAndTemperatureAreTaken : Prop :=
  (∀ (s : State) (p : Packet) (es : List (Byte × Byte × BitVec 16)), s.quiet → s.admits p s.unitKey →
    1 ≤ es.length → es.length ≤ 24 →
    p.body = es.flatMap (fun e =>
      [e.1, e.2.1, (e.2.2.extractLsb' 8 8 : BitVec 8), (e.2.2.extractLsb' 0 8 : BitVec 8)]) →
    let ok (e : Byte × Byte × BitVec 16) : Bool := decide (e.1.toNat < 24) && decide (e.2.1.toNat < 16)
    let pair (e : Byte × Byte × BitVec 16) : Nat := 16 * e.1.toNat + e.2.1.toNat
    (s.save.isSome = true ∨ s.load.isSome = true →
      exec (.writeDistances p) s = s.answer 11 p .busy []) ∧
    (s.save = none → s.load = none →
      (∀ before after bad, es = before ++ bad :: after → (∀ e ∈ before, ok e = true) → ok bad = false →
        exec (.writeDistances p) s = s.answer 11 p .refusedRange [f1 (before.length + 1)]) ∧
      ((∀ e ∈ es, ok e = true) → s.delay.distances.length = 384 → ∃ t,
        exec (.writeDistances p) s = State.answer t 11 p
          (if ∃ e ∈ es, 20000 < e.2.2.toNat ∧ e.2.2.toNat ≠ 65535 then .clamped else .done) [] ∧
        (∀ i < 384, t.delay.distances.getD i none =
          match es.reverse.find? fun e => pair e == i with
          | none => s.delay.distances.getD i none
          | some e => if e.2.2.toNat = 65535 then none else some (min 20000 e.2.2.toNat)) ∧
        (∀ i, i ∈ t.delay.dirty ↔ i ∈ s.delay.dirty ∨ ∃ e ∈ es, pair e = i) ∧
        t = { s with delay := { s.delay with
          distances := t.delay.distances, dirty := t.delay.dirty } }))) ∧
  ∀ (s : State) (p : Packet) (hi lo : Byte), s.quiet → s.admits p s.unitKey → p.body = [hi, lo] →
    let raw := (hi ++ lo : BitVec 16).toInt
    let v := max (-100) (min 400 raw)
    let d := s.delay
    exec (.setAirTemperature p) s =
      if 5 ≤ |v - d.used| then
        State.answer { s with delay := { d with requested := v, used := v, dirty := List.range 384 } } 13 p
          (if v = raw then .done else .clamped) [f2 v, f2 v]
      else State.answer { s with delay := { d with requested := v } } 13 p
          (if v = raw then .done else .clamped) [f2 v, f2 d.used]

/-- R84, R85, R103: SET ALLOCATION is BUSY, REFUSED_STATE, or REFUSED_RANGE with the clamped total above 2,048,
in that order; else the clamped lengths become the allocation, the lines are zeroed and a clear of 32 blocks
begins. FLUSH LINE is refused for a line that is not there, BUSY behind another clear, refused for a line that
is not faulted; else the flush of ceil(n / 64) blocks, at least 1, begins with the line still faulted. That
the zeros stand from the request on is the model's choice (log entry 10). -/
def Obligations.AllocationAndFlushAreChecked : Prop :=
  (∀ (s : State) (p : Packet) (ls : List (BitVec 16)), s.quiet → s.admits p s.unitKey → ls.length = 7 →
    p.body = ls.flatMap (fun n => [(n.extractLsb' 8 8 : BitVec 8), (n.extractLsb' 0 8 : BitVec 8)]) →
    let stored : List Nat := ls.map fun n => if n = 0 then 0 else max 16 (min 1024 n.toNat)
    let busy := s.save.isSome || s.load.isSome || s.flush.isSome || s.allocClear.isSome
    let inUse := (∃ a < 6, (s.area a).service = .inService) ∨
      (∃ l ∈ ovLines, (s.ov l).state ≠ .idle) ∨ (s.ov .evac).latch = true
    (busy = true → exec (.setAllocation p) s = s.answer 14 p .busy []) ∧
    (busy = false → inUse → exec (.setAllocation p) s = s.answer 14 p .refusedState []) ∧
    (busy = false → ¬ inUse → 2048 < stored.sum →
      exec (.setAllocation p) s = s.answer 14 p .refusedRange [f2 stored.sum]) ∧
    (busy = false → ¬ inUse → stored.sum ≤ 2048 →
      exec (.setAllocation p) s = State.answer
        { s with
          lines := s.lines.mapIdx fun k l => { l with length := stored.getD k 0, writeAt := 0 }
          cells := []
          allocClear := some ⟨32, false⟩ } 14 p .started (stored.map fun n => f2 n))) ∧
  ∀ (s : State) (p : Packet) (k : Byte), s.quiet → s.admits p s.unitKey → p.body = [k] →
    let busy := s.flush.isSome || s.allocClear.isSome || s.audioReset.isSome
    let line := s.line k.toNat
    (7 ≤ k.toNat → exec (.flushLine p) s = s.answer 15 p .refusedRange [f1 0]) ∧
    (k.toNat < 7 → busy = true → exec (.flushLine p) s = s.answer 15 p .busy []) ∧
    (k.toNat < 7 → busy = false → line.faulted = false →
      exec (.flushLine p) s = s.answer 15 p .refusedState []) ∧
    (k.toNat < 7 → busy = false → line.faulted = true → ∃ blocks : Nat,
      (blocks : Int) = max 1 ⌈(line.length : ℚ) / 64⌉ ∧
      exec (.flushLine p) s = State.answer { s with flush := some (k.toNat, ⟨blocks, false⟩) } 15 p
        .started [])

/-- R112, R130, R131, R137, R138: SET ZONE MODE gives every zone it names the home mode and answers with all
sixteen; an empty set or a mode that is not listed is REFUSED_RANGE. INSERT PROVING ERROR stores an insert for
a zone STEADY in TEST alone; CLEAR PROVING COUNT zeroes the count alone; SET PROVING stores the clamped level,
and a new assignment, or its removal, with a detector that searches anew, or is IDLE, PROVING_LOST being posted
when it leaves LOCKED. That it then names the zone that was assigned, and that the window and an IDLE detector's
shadow are then empty, is the model's choice (log entries 44, 51). -/
def Obligations.ZoneAndProvingRequestsAreTaken : Prop :=
  (∀ (s : State) (p : Packet) (hi lo m : Byte), s.quiet → s.open_ p → p.body = [hi, lo, m] →
    let set : BitVec 16 := hi ++ lo
    (set = 0 ∨ 4 ≤ m.toNat → exec (.setZoneMode p) s = s.answer 16 p .refusedRange [f1 0]) ∧
    (∀ mode, set ≠ 0 → [Mode.off, .quiet, .live, .test][m.toNat]? = some mode →
      let homes := s.zones.mapIdx fun z r => if set.getLsbD z then mode else r.home
      exec (.setZoneMode p) s = State.answer
        { s with zones := s.zones.mapIdx fun z r =>
            { r with home := if set.getLsbD z then mode else r.home } } 16 p .done
        (homes.map fun x => f1 x.code))) ∧
  ∀ (s : State) (p : Packet), s.quiet → s.open_ p →
    let v := s.proving
    (p.body = [] → exec (.clearProvingCount p) s =
      State.answer { s with proving := { v with errors := 0 } } 21 p .done []) ∧
    (∀ z : Byte, p.body = [z] →
      (16 ≤ z.toNat → exec (.insertProvingError p) s = s.answer 19 p .refusedRange [f1 0]) ∧
      (z.toNat < 16 → exec (.insertProvingError p) s =
        if (s.zone z.toNat).current = .test ∧ (s.zone z.toNat).phase = .steady then
          State.answer { s with zones := s.zones.modify z.toNat fun r => { r with insert := true } } 19 p
            .done []
        else s.answer 19 p .refusedState [])) ∧
    ∀ z n hi lo : Byte, p.body = [z, n, hi, lo] →
      let raw := (hi ++ lo : BitVec 16).toInt
      let level := max (-240) (min 0 raw)
      let code := if level = raw then ResultCode.done else .clamped
      let lost (t : State) : State := if v.state = .locked then
        t.post .proving .provingLost ((v.assignment.map Prod.fst).getD 255) [f2 v.errors] else t
      let fresh (st : DetectorState) (a : Option (Nat × Nat)) : Proving :=
        { level := level, assignment := a, state := st, errors := v.errors, shadow := [], confirmed := 0,
          flywheel := [], progress := 0, mismatches := 0 }
      ((16 ≤ z.toNat ∧ z.toNat ≠ 255) ∨ (64 ≤ n.toNat ∧ n.toNat ≠ 255) ∨
          ¬ (z.toNat = 255 ↔ n.toNat = 255) →
        exec (.setProving p) s = s.answer 18 p .refusedRange [f1 0]) ∧
      (z.toNat = 255 → n.toNat = 255 → exec (.setProving p) s = State.answer
        (lost { s with proving := fresh .idle none, slotMap := { s.slotMap with sense := none } }) 18 p code
        [f1 255, f1 255, f2 level, f1 DetectorState.idle.code]) ∧
      (z.toNat < 16 → n.toNat < 64 → v.assignment = some (z.toNat, n.toNat) →
        exec (.setProving p) s = State.answer { s with proving := { v with level := level } } 18 p code
          [f1 z.toNat, f1 n.toNat, f2 level, f1 v.state.code]) ∧
      (z.toNat < 16 → n.toNat < 64 → v.assignment ≠ some (z.toNat, n.toNat) →
        exec (.setProving p) s = State.answer
          (lost { s with
            proving := fresh .searching (some (z.toNat, n.toNat))
            slotMap := { s.slotMap with sense := some n.toNat } }) 18 p code
          [f1 z.toNat, f1 n.toNat, f2 level, f1 DetectorState.searching.code])

/-! ## Overrides and standby -/

/-- R140, R141, R144, R154, R155: SET OVERRIDE PROGRAMME stores every field of an O line's programme, clamped, and
drops an EDGE latch that the new one does not admit; of EVAC's it stores source, position and gain; while an
image is saved or loaded it is BUSY, and a code that is not listed is REFUSED_RANGE. A running copy is not
touched. OVERRIDE ENABLE with its present value changes nothing; SET sets the flag alone; CLEAR turns the ACTIVE O
override ENDING, clears every O latch, makes every REQUESTING one IDLE and leaves EVAC. EXTEND gives an ACTIVE O
override a new duration or tail in force, clamped, and reloads a RUNNING countdown; CANCEL makes a REQUESTING one
IDLE and turns an ACTIVE one ENDING, clearing its latch and suppressing a LEVEL line. Values and lines that are
not listed are REFUSED_RANGE, other states NOT_ACTIVE. What the reply for EVAC's programme carries is the model's
choice, and that SET is coded 0 and CLEAR 1 is read from R193 (log entry 11). -/
def Obligations.OverrideRequestsAreTaken : Prop :=
  (∀ (s : State) (p : Packet) (line trig src th tl pos gh gl dh dl cs eh el : Byte), s.quiet →
    s.admits p s.unitKey → p.body = [line, trig, src, th, tl, pos, gh, gl, dh, dl, cs, eh, el] →
    let gain := (gh ++ gl : BitVec 16).toInt
    let dur : Int := ((dh ++ dl : BitVec 16).toNat : Int)
    let tail : Int := ((eh ++ el : BitVec 16).toNat : Int)
    let q : Programme :=
      { trigger := if trig = 0 then .edge else .level
        source := if src = 0 then .localPort else .slot
        targets := th ++ tl
        position := if pos = 255 then none else some pos.toNat
        gain := max (-480) (min 48 gain)
        duration := max 1 (min 600 dur)
        countStart := if cs = 0 then .atStart else .atSourceEnd
        tail := max 0 (min 600 tail) }
    let code := if q.gain = gain ∧ q.duration = dur ∧ q.tail = tail then ResultCode.done else .clamped
    let listed := line.toNat < 5 ∧ trig.toNat < 2 ∧ src.toNat < 2 ∧ cs.toNat < 2 ∧ (pos.toNat < 24 ∨ pos = 255)
    let busy := s.save.isSome || s.load.isSome
    (busy = true → exec (.setOverrideProgramme p) s = s.answer 22 p .busy []) ∧
    (busy = false → ¬ listed → exec (.setOverrideProgramme p) s = s.answer 22 p .refusedRange [f1 0]) ∧
    (busy = false → listed → line = 0 → exec (.setOverrideProgramme p) s = State.answer
      { s with overrides := { s.overrides with evac := { s.overrides.evac with programme :=
          { s.overrides.evac.programme with source := q.source, position := q.position, gain := q.gain } } } }
      22 p code [f1 src.toNat, f1 pos.toNat, f2 q.gain]) ∧
    (busy = false → listed → ∀ l ∈ oLines, l.code = line.toNat →
      let o := s.ov l
      let drops := o.latch && (q.trigger == .level || q.targets == 0)
      exec (.setOverrideProgramme p) s = State.answer
        { s with overrides := s.overrides.set l { o with
            programme := q
            latch := o.latch && !drops
            state := if drops = true ∧ o.state = .requesting then .idle else o.state } } 22 p code
        [f1 trig.toNat, f1 src.toNat, f2 q.targets.toNat, f1 pos.toNat, f2 q.gain, f2 q.duration,
          f1 cs.toNat, f2 q.tail])) ∧
  (∀ (s : State) (p : Packet) (b : Byte), s.quiet → s.admits p s.unitKey → p.body = [b] →
    (2 ≤ b.toNat → exec (.overrideEnable p) s = s.answer 23 p .refusedRange [f1 0]) ∧
    (b = 0 → exec (.overrideEnable p) s = State.answer { s with overrideEnable := true } 23 p .done []) ∧
    (b = 1 → s.overrideEnable = false → exec (.overrideEnable p) s = s.answer 23 p .done []) ∧
    (b = 1 → s.overrideEnable = true → ∃ t, exec (.overrideEnable p) s = State.answer t 23 p .done [] ∧
      (∀ l ∈ oLines,
        let o := s.ov l
        let ends := s.holder = some l ∧ o.state = .active
        t.ov l = { o with
          latch := false
          state := if o.state = .requesting then .idle else if ends then .ending else o.state
          countdown := if ends then .none else o.countdown }) ∧
      t.ov .evac = s.ov .evac ∧
      t = { s with overrides := t.overrides, overrideEnable := false, early := t.early })) ∧
  (∀ (s : State) (p : Packet) (n hi lo : Byte), s.quiet → s.open_ p → p.body = [n, hi, lo] →
    (n = 0 ∨ 5 ≤ n.toNat → exec (.extendOverride p) s = s.answer 24 p .refusedRange [f1 0]) ∧
    ∀ l ∈ oLines, l.code = n.toNat →
      let o := s.ov l
      let raw := (hi ++ lo : BitVec 16).toNat
      let v := if o.trigger = .edge then max 1 (min 600 raw) else min 600 raw
      let count : Countdown := match o.countdown with
        | .running _ => .running (v * 100)
        | c => c
      (o.state ≠ .active → exec (.extendOverride p) s = s.answer 24 p .notActive []) ∧
      (o.state = .active → exec (.extendOverride p) s = State.answer
        { s with overrides := s.overrides.set l { o with
            durationInForce := if o.trigger = .edge then v else o.durationInForce
            tailInForce := if o.trigger = .edge then o.tailInForce else v
            countdown := count } } 24 p (if v = raw then .done else .clamped) count.fields)) ∧
  ∀ (s : State) (p : Packet) (n : Byte), s.quiet → s.open_ p → p.body = [n] →
    (n = 0 ∨ 5 ≤ n.toNat → exec (.cancelOverride p) s = s.answer 25 p .refusedRange [f1 0]) ∧
    ∀ l ∈ oLines, l.code = n.toNat →
      let o := s.ov l
      let cancelled : Override := { o with latch := false, suppressed := o.suppressed || o.trigger == .level }
      (o.state = .idle ∨ o.state = .ending → exec (.cancelOverride p) s = s.answer 25 p .notActive []) ∧
      (o.state = .requesting → exec (.cancelOverride p) s = State.answer
        { s with overrides := s.overrides.set l { cancelled with state := .idle } } 25 p .done []) ∧
      (o.state = .active → exec (.cancelOverride p) s = State.answer
        { s with
          overrides := s.overrides.set l { cancelled with state := .ending, countdown := .none }
          early := if s.link.inBlock = 0 then .turned :: s.early else s.early } 25 p .done [])

/-- R156, R159, R160: EVAC CLEAR is refused while the line was sampled active, and else clears the latch and the
flag, turning an ACTIVE evacuation ENDING with its notice; STANDBY is refused while an area is IN_SERVICE, an
override is in use or the latch is set, and else enters standby; WAKE UNIT leaves it. -/
def Obligations.EvacClearAndStandbyAreTaken : Prop :=
  ∀ (s : State) (p : Packet), s.quiet → p.body = [] →
    (s.admits p s.unitKey →
      let o := s.ov .evac
      (o.sample = true → exec (.evacClear p) s = s.answer 26 p .refusedState []) ∧
      (o.sample = false → o.latch = false → exec (.evacClear p) s = s.answer 26 p .done []) ∧
      (o.sample = false → o.latch = true → o.state = .active → exec (.evacClear p) s =
        State.answer (State.post
          { s with
            status := { s.status with evac := false }
            overrides := { s.overrides with
              evac := { o with latch := false, state := .ending, countdown := .none } }
            early := if s.link.inBlock = 0 then .turned :: s.early else s.early }
          .overrides .evacState 0 [f2 3]) 26 p .done []) ∧
      (o.sample = false → o.latch = true → o.state = .requesting → s.holder ≠ some .evac →
        exec (.evacClear p) s = State.answer
          { s with
            status := { s.status with evac := false }
            overrides := { s.overrides with evac := { o with latch := false, state := .idle } } }
          26 p .done []) ∧
      let inUse := (∃ a < 6, (s.area a).service = .inService) ∨
        (∃ l ∈ ovLines, (s.ov l).state ≠ .idle) ∨ o.latch = true
      (inUse → exec (.standby p) s = s.answer 34 p .refusedState []) ∧
      (¬ inUse → exec (.standby p) s = State.answer { s with standby := true } 34 p .done [])) ∧
    (s.open_ p → exec (.wakeUnit p) s = State.answer { s with standby := false } 35 p .done [])

/-! ## The link's settings, resets and the image -/

/-- R38, R171, R178: SET LOCAL PORT empties the store for a new depth of 32 or 64 and stops its reads; SET GROUP
FILTER replaces the 64 marks, a group tag's mark being that of the exclusive-or of its three six-bit parts; SET
UNIT KEY replaces the key, which no reply carries. -/
def Obligations.LinkSettingsAreTaken : Prop :=
  (∀ (s : State) (p : Packet) (b : Byte), s.quiet → s.open_ p → p.body = [b] →
    exec (.setLocalPort p) s =
      if b.toNat = 32 ∨ b.toNat = 64 then
        if s.port.depth = b.toNat then s.answer 27 p .done []
        else State.answer { s with port := { s.port with
          depth := b.toNat, store := [], slipPending := false, reading := false, resume := false } } 27 p
          .done []
      else s.answer 27 p .refusedRange [f1 0]) ∧
  (∀ (s : State) (p : Packet), s.quiet → s.admits p s.unitKey → p.body.length = 8 →
    ∃ g : BitVec 64, exec (.setGroupFilter p) s =
        State.answer { s with link := { s.link with groups := g } } 29 p .done [⟨8, g.toNat⟩] ∧
      ∀ i < 64, g.getLsbD i = (p.body.getD (7 - i / 8) 0).getLsbD (i % 8)) ∧
  (∀ t : BitVec 16,
    foldedIndex t = (t.toNat % 64) ^^^ (t.toNat / 64 % 64) ^^^ (t.toNat / 4096)) ∧
  [1#16, 64#16, 4096#16, 4660#16, 65535#16].map foldedIndex = [1, 1, 1, 61, 15] ∧
  ∀ (s : State) (p : Packet) (hi lo : Byte), s.quiet → s.admits p s.unitKey → p.body = [hi, lo] →
    exec (.setUnitKey p) s = State.answer { s with unitKey := hi ++ lo } 30 p .done []

/-- R28, R34: SET SLOT MAP is BUSY in an image save or load, refused at the first item out of range or for an
output slot held twice in the copy, and else installs the copy, in which the last item for an entry stands. A
channel whose slot changed is ABSENT with an invalid history; any other is as it was. -/
def Obligations.SlotMapIsCheckedThenInstalled : Prop :=
  ∀ (s : State) (p : Packet) (es : List (Byte × Byte)), s.quiet → s.admits p s.unitKey → 1 ≤ es.length →
    es.length ≤ 41 → p.body = es.flatMap (fun e => [e.1, e.2]) → s.slotMap.positions.length = 24 →
    s.slotMap.zones.length = 16 →
    let ok (e : Byte × Byte) : Bool := decide (e.1.toNat < 41) && (decide (e.2.toNat < 64) || e.2 == 255)
    let entry (m : SlotMap) (n : Nat) : Option Nat :=
      if n < 24 then m.positions.getD n none else if n < 40 then m.zones.getD (n - 24) none else m.announce
    let copy (n : Nat) : Option Nat := match es.reverse.find? fun e => e.1.toNat == n with
      | none => entry s.slotMap n
      | some e => if e.2 = 255 then none else some e.2.toNat
    let twice (v : Nat) : Prop := ∃ y z : Nat, y < z ∧ z < 16 ∧ copy (24 + y) = some v ∧ copy (24 + z) = some v
    let busy := s.save.isSome || s.load.isSome
    (busy = true → exec (.setSlotMap p) s = s.answer 28 p .busy []) ∧
    (busy = false → ∀ before after bad, es = before ++ bad :: after → (∀ e ∈ before, ok e = true) →
      ok bad = false → exec (.setSlotMap p) s = s.answer 28 p .refusedRange [f1 (before.length + 1)]) ∧
    (busy = false → (∀ e ∈ es, ok e = true) →
      (∀ v z : Nat, v < 64 → twice v → (∀ u < v, ¬ twice u) → z < 16 → copy (24 + z) = some v →
        (∃ e ∈ es, e.1.toNat = 24 + z) →
        (∀ y < z, copy (24 + y) = some v → ∀ e ∈ es, e.1.toNat ≠ 24 + y) →
        exec (.setSlotMap p) s = s.answer 28 p .refusedConflict [f1 9, f1 v, f1 z]) ∧
      ((∀ v < 64, ¬ twice v) → s.channels.length = 25 → ∃ t,
        exec (.setSlotMap p) s = State.answer t 28 p .done [] ∧
        (∀ n < 41, entry t.slotMap n = copy n) ∧ t.slotMap.sense = s.slotMap.sense ∧
        (∀ c < 25, let n : Nat := if c = 24 then 40 else c
          (copy n = entry s.slotMap n → t.channel c = s.channel c) ∧
          (copy n ≠ entry s.slotMap n → t.channel c = { s.channel c with
            presence := .absent, history := List.replicate 32 false, held := 0, run := 0 })) ∧
        (∀ c < 25, (s.channel c).presence = .present → (t.channel c).presence = .absent →
          t.status.presence.getLsbD c = true) ∧
        t = { s with
          slotMap := t.slotMap, channels := t.channels, status := t.status, posts := t.posts,
          overrides := t.overrides }))

/-- R25, R40, R64, R80, R106, R107, R127, R139, R162, R187: each RESET row carries out the selectors of its
set: AUDIO starts the 32 busy blocks with silent channels, zones and records; PLANS gives plans, geometry and
settings their factory values; REPORTING empties the queue and clears flags, less standing ones, and counters;
what no selector reaches is kept. An image in flight is BUSY, as is an AUDIO reset that finds one in flight; a
held bus or set EVAC latch is REFUSED_STATE. That each of the three rows carries the whole set, PLANS carried out
before AUDIO, with REPORTING clearing the flags before both and setting those of standing conditions after both, so
that a tap which the reset itself clamps is flagged, is the model's reading (log entry 25). -/
def Obligations.ResetsReachWhatTheySelect : Prop :=
  ∀ (s : State) (p : Packet) (b : Byte), s.quiet → s.admits p s.unitKey → p.body = [b] →
    s.areas.length = 6 → s.channels.length = 25 → s.lines.length = 7 → s.zones.length = 16 →
    ∀ c ∈ [Instr.resetAudio p, Instr.resetPlans p, Instr.resetReporting p],
    let audio := b.getLsbD 0
    let plans := b.getLsbD 1
    let reporting := b.getLsbD 2
    let imaging := s.save.isSome || s.load.isSome
    let held := (s.ov .evac).latch = true ∨
      ∃ l ∈ ovLines, (s.ov l).state = .active ∨ (s.ov l).state = .ending
    (b = 0 ∨ 8 ≤ b.toNat → exec c s = s.answer 31 p .refusedRange [f1 0]) ∧
    (b ≠ 0 → b.toNat < 8 → imaging = true → exec c s = s.answer 31 p .busy []) ∧
    (b ≠ 0 → b.toNat < 8 → imaging = false → audio = true → s.audioReset ≠ none →
      exec c s = s.answer 31 p .busy []) ∧
    (b ≠ 0 → b.toNat < 8 → imaging = false → (audio = true → s.audioReset = none) →
      audio = true ∨ plans = true → held → exec c s = s.answer 31 p .refusedState []) ∧
    (b ≠ 0 → b.toNat < 8 → imaging = false → (audio = true → s.audioReset = none) →
      (audio = true ∨ plans = true → ¬ held) →
      ∃ t, exec c s = State.answer t 31 p (if audio then .started else .done) [] ∧
        (audio = true → t.audioReset = some ⟨32, false⟩ ∧ t.flush = none ∧
          (∀ n < 25, (t.channel n).presence = .absent ∧ (t.channel n).history = List.replicate 32 false ∧
            (t.channel n).held = 0 ∧ (t.channel n).run = 0 ∧ (t.channel n).level = -480) ∧
          t.port.presence = .absent ∧ t.port.store = [] ∧ (∀ k < 7, (t.line k).faulted = false) ∧
          (∀ z < 16, (t.zone z).phase = .steady ∧ (t.zone z).next = none ∧ (t.zone z).progress = 0 ∧
            (t.zone z).duck = 0 ∧ (t.zone z).insert = false ∧ (t.zone z).current =
              if (s.zone z).current = .off ∧ (s.zone z).phase = .steady then .off else .quiet) ∧
          (∀ a < 6, (t.area a).transition = none ∧ (t.area a).challenger = none ∧ (t.area a).nom = 1 ∧
            (t.area a).lead = ⟨(t.area a).live.rest, .rest⟩)) ∧
        (audio = false → t.audioReset = s.audioReset ∧ t.flush = s.flush ∧
          (∀ k < 7, (t.line k).faulted = (s.line k).faulted) ∧
          ∀ z < 16, (t.zone z).current = (s.zone z).current ∧ (t.zone z).phase = (s.zone z).phase) ∧
        (plans = true → t.unitKey = 0 ∧ t.slotMap = SlotMap.factory ∧ t.delay = DelayComputer.reset ∧
          t.cells = [] ∧ t.lines.map DelayLine.length = [256, 256, 256, 256, 256, 256, 512] ∧
          t.port.depth = 32 ∧ t.link.groups = 0 ∧ t.overrideEnable = false ∧ t.proving.assignment = none ∧
          t.proving.level = -120 ∧ (∀ z < 16, (t.zone z).home = .off) ∧
          (∀ a < 6, (t.area a).live = Plan.factory ∧ (t.area a).staged = Plan.factory ∧
            (t.area a).stagedState = .clean ∧ (t.area a).service = .dormant) ∧
          ∀ l ∈ oLines, (t.ov l).programme = Programme.factoryO ∧ (t.ov l).latch = false) ∧
        (plans = false → t.unitKey = s.unitKey ∧ t.slotMap = s.slotMap ∧ t.delay = s.delay ∧
          t.overrides = s.overrides ∧ t.overrideEnable = s.overrideEnable ∧ t.link = s.link ∧
          (∀ z < 16, (t.zone z).home = (s.zone z).home) ∧
          ∀ a < 6, (t.area a).live = (s.area a).live ∧ (t.area a).staged = (s.area a).staged ∧
            (t.area a).stagedState = (s.area a).stagedState ∧ (t.area a).service = (s.area a).service) ∧
        (reporting = true → t.queue = [] ∧ t.kindMask = 0 ∧ t.suppress = 0 ∧ t.reporting = 0 ∧
          t.proving.errors = 0 ∧ t.status = { Status.clear with
            chain := decide (s.link.chain = .lost)
            evac := s.status.evac || (s.ov .evac).latch
            presence := t.status.presence
            tapClamped := t.status.tapClamped } ∧
          (audio = false → t.status.tapClamped = 0) ∧
          ∀ n < 26, t.status.presence.getLsbD n =
            if n = 25 then decide (t.port.presence = .absent)
            else decide ((t.channel n).presence = .absent) && (t.slotMap.entry n).isSome) ∧
        (reporting = false → t.queue = s.queue ∧ t.kindMask = s.kindMask ∧ t.suppress = s.suppress ∧
          t.reporting = s.reporting ∧ t.proving.errors = s.proving.errors ∧
          t.status = { s.status with tapClamped := t.status.tapClamped } ∧
          (audio = false → t.status.tapClamped = s.status.tapClamped)) ∧
        (∀ n ∈ t.posts, n.kind = .tapClamped → n.subject < 16 → t.status.tapClamped.getLsbD n.subject = true) ∧
        t.sequence = s.sequence ∧ t.holder = s.holder ∧ t.standby = s.standby ∧ t.image = s.image ∧
        t.link.chain = s.link.chain ∧ t.link.counter = s.link.counter)

/-- R188, R189: SAVE IMAGE is BUSY behind any long operation and else starts 400 blocks with a copy of the live
plans and settings as they stand; LOAD IMAGE is BUSY, refused while an area is IN_SERVICE, an override is in use
or the EVAC latch is set, and else starts a first pass of 200 blocks. Nothing else changes. -/
def Obligations.ImageRequestsStartTheirPasses : Prop :=
  ∀ (s : State) (p : Packet), s.quiet → s.admits p s.unitKey → p.body = [] →
    let imaging := s.save.isSome || s.load.isSome
    let clearing := s.flush.isSome || s.allocClear.isSome || s.audioReset.isSome
    let inUse := (∃ a < 6, (s.area a).service = .inService) ∨
      (∃ l ∈ ovLines, (s.ov l).state ≠ .idle) ∨ (s.ov .evac).latch = true
    (imaging = true ∨ clearing = true → exec (.saveImage p) s = s.answer 32 p .busy []) ∧
    (imaging = false → clearing = false → exec (.saveImage p) s = State.answer
      { s with save := some ⟨⟨400, false⟩,
        { plans := s.areas.map Area.live, distances := s.delay.distances,
          temperature := s.delay.requested, allocation := s.lines.map DelayLine.length,
          positionSlots := s.slotMap.positions, zoneSlots := s.slotMap.zones,
          announceSlot := s.slotMap.announce,
          programmes := ⟨s.overrides.evac.programme, s.overrides.o1.programme,
            s.overrides.o2.programme, s.overrides.o3.programme, s.overrides.o4.programme⟩,
          enable := s.overrideEnable, groups := s.link.groups, homes := s.zones.map Zone.home,
          unitKey := s.unitKey }⟩ } 32 p .started []) ∧
    (imaging = true → exec (.loadImage p) s = s.answer 33 p .busy []) ∧
    (imaging = false → inUse → exec (.loadImage p) s = s.answer 33 p .refusedState []) ∧
    (imaging = false → ¬ inUse → exec (.loadImage p) s = State.answer
      { s with load := some ⟨⟨200, false⟩, false, false⟩ } 33 p .started [])
end

