-- ==== Sys2Proof/Laws/Arith.lean ====
section
/-! SUPPORT. What the shared arithmetic can give: saturation (R2), clamps (R11), rounding (R4). -/

namespace Sys2Proof.Machine

/-- R2: a saturated value lies in the symmetric range. -/
theorem saturate_range (x : Int) : -8388607 ≤ saturate x ∧ saturate x ≤ 8388607 := by
  unfold saturate fullScale
  omega

/-- R2: a value of the symmetric range is left as it is. -/
theorem saturate_of_range {x : Int} (h : -8388607 ≤ x) (h' : x ≤ 8388607) : saturate x = x := by
  unfold saturate fullScale
  omega

/-- R11: a clamped value lies in its range. -/
theorem clampInt_range {lo hi : Int} (h : lo ≤ hi) (x : Int) :
    lo ≤ clampInt lo hi x ∧ clampInt lo hi x ≤ hi := by
  unfold clampInt
  omega

/-- R11: a value of the range is left as it is. -/
theorem clampInt_of_range {lo hi x : Int} (h : lo ≤ x) (h' : x ≤ hi) : clampInt lo hi x = x := by
  unfold clampInt
  omega

/-- R4: the rounded quotient is the one whole number within half of the quotient, ties taken upward. -/
theorem roundDiv_spec (a : Int) {b : Nat} (hb : 0 < b) :
    2 * b * roundDiv a b ≤ 2 * a + b ∧ 2 * a + b < 2 * b * (roundDiv a b + 1) := by
  unfold roundDiv
  have hb' : (0 : Int) < 2 * b := by omega
  constructor
  · exact Int.mul_ediv_self_le (by omega)
  · have := Int.lt_mul_ediv_self_add (x := 2 * a + b) hb'
    linarith

/-- R181: a counter of the status record stays within 16 bits. -/
theorem sat16_le (n : Nat) : sat16 n ≤ 65535 := Nat.min_le_right _ _

end Sys2Proof.Machine
end

