-- ==== Sys2Proof/Laws/Frames.lean ====
section
/-! SUPPORT. What a frame's packet, an event row of a boundary, an update of the
lines, a record with nothing due, and the removal of a take can come to. -/

namespace Sys2Proof.Machine

/-- Whatever falls within a frame leaves the frame counter as it was (R1). -/
@[simp] theorem State.inFrame_counter (s : State) (act : State → State) :
    (s.inFrame act).link.counter = s.link.counter := rfl

/-- Beyond the frame counter, what falls within a frame does what it does (R170, R184). -/
theorem State.inFrame_eq (s : State) (act : State → State) :
    ∃ t, t = act { s with link := { s.link with counter := s.link.stamp } } ∧
      s.inFrame act = { t with link := { t.link with counter := s.link.counter } } := ⟨_, rfl, rfl⟩

/-- R186: a request that meets no notice of its frame is carried out by itself; one that does comes after
the notices, or before them with their flags held back. -/
theorem State.meetRequest_cases (s : State) (before : Status) (request : State → State) :
    (s.posts = [] ∧ s.meetRequest before request = request s) ∨
    (s.posts ≠ [] ∧ s.meetRequest before request =
      request (State.flushPosts { s with choices := s.choices + 1 })) ∨
    (s.posts ≠ [] ∧ s.meetRequest before request = State.repost
      (request { s with
        choices := s.choices + 1, status := s.status.withFlagsOf before, posts := [] }) s.posts) := by
  unfold State.meetRequest
  cases h : s.posts with
  | nil => exact .inl ⟨rfl, by simp⟩
  | cons p ps =>
    cases hc : Config.noticeFirst s.choices
    · exact .inr (.inr ⟨by simp, by simp⟩)
    · exact .inr (.inl ⟨by simp, by simp⟩)

/-- An event row of a boundary changes nothing, or takes its event where it is due. -/
theorem State.boundaryEvent_cases (s : State) (due : State → Bool) (act : State → State) :
    s.boundaryEvent due act = s ∨
    (s.powered = true ∧ due s.settle = true ∧ s.boundaryEvent due act = (act s.settle).flushPosts) := by
  unfold State.boundaryEvent
  cases hp : s.powered <;> cases hd : due s.settle <;> simp

/-- R17: a take that is withdrawn leaves a dip under way as it runs, but for its mark. -/
theorem Transition.withdraw_frame (a : Nat) (t : Transition) :
    (t.withdraw a).kind = t.kind ∧ (t.withdraw a).length = t.length ∧
    (t.withdraw a).progress = t.progress ∧ (t.withdraw a).zones = t.zones ∧
    (t.withdraw a).midDone = t.midDone := by
  unfold Transition.withdraw
  split <;> simp

/-- R17: the removal of a held take changes the marks of transitions alone. -/
theorem State.withdrawTake_frame (s : State) (a : Nat) :
    s.withdrawTake a = { s with areas := (s.withdrawTake a).areas } := by
  unfold State.withdrawTake
  split <;> rfl

/-- R99: a dip that ends paths changes zones and the zones of transitions alone. -/
theorem State.dropTaps_frame (s : State) (b : Nat) :
    s.dropTaps b = { s with zones := (s.dropTaps b).zones, areas := (s.dropTaps b).areas } := rfl

/-- Where no image load has ended at this boundary, the lines are under the settings that stand. -/
theorem State.replaced_of_early_nil (s : State) (h : s.early = []) : s.replaced = none := by
  simp [State.replaced, h]

/-- R141, R144: with nothing replaced at this boundary an update of the lines is as it is. -/
theorem State.underReplaced_of_none (s : State) (h : s.replaced = none) (act : State → State) :
    s.underReplaced act = act s := by
  simp [State.underReplaced, h]

/-- With nothing replaced at this boundary the lines find the part as it stands. -/
theorem State.withReplaced_of_none (s : State) (h : s.replaced = none) : s.withReplaced = s := by
  simp [State.withReplaced, h]

/-- R94: a record whose transition has not sent its last sample completes nothing. -/
theorem State.transitionComplete_of_not_done (s : State) (b : Nat) (h : (s.area b).transitionDone = false) :
    s.transitionComplete b = s := by
  unfold State.transitionComplete
  split
  · rfl
  · next t ht =>
    have : ¬ t.length ≤ t.progress := by simpa [Area.transitionDone, ht] using h
    simp [this]

/-- R92: a record with no midpoint due has none. -/
theorem State.dipMidpoint_of_not_due (s : State) (b : Nat)
    (h : (s.area b).transition.any Transition.midpointDue = false) : s.dipMidpoint b = s := by
  unfold State.dipMidpoint
  split
  · rfl
  · next t ht =>
    have : t.midpointDue = false := by simpa [ht] using h
    simp [this]

/-- R98: an area that owes no decision after a cancelled rest fade makes none. -/
theorem State.restCancelDecision_of_not_due (s : State) (b : Nat) (h : (s.area b).decisionDue = false) :
    s.restCancelDecision b = s := by
  simp [State.restCancelDecision, h]

/-- R87: an area that owes no release check makes none. -/
theorem State.releaseCheck_of_not_due (s : State) (b : Nat) (h : (s.area b).checkDue = false) :
    s.releaseCheck b = s := by
  simp [State.releaseCheck, h]

/-- R88: with no flush, AUDIO reset or save ending at the boundary, a steering request finds the records as the
midpoints, completions, decisions, checks and dips of the boundary leave them. -/
theorem State.beforeRequests_of_none_ending (s : State) (hf : (s.flush.any fun f => f.2.last) = false)
    (hr : s.audioReset.any Timer.last = false) (hs : (s.save.any fun v => v.timer.last) = false) :
    s.beforeRequests = s.steerFirst := by
  simp [State.beforeRequests, State.endForSteering, hf, hr, hs]

end Sys2Proof.Machine
end

