-- ==== Sys2Proof/Laws/State.lean ====
section
/-! SUPPORT. What each update of one part of the state leaves of every field of `State`, true by `rfl`, so
that no later proof unfolds a record update. -/

namespace Sys2Proof.Machine

/-! ## `State.modArea` -/

@[simp] theorem State.modArea_pending (s : State) (a : Nat) (f : Area → Area) : (s.modArea a f).pending = s.pending := rfl
@[simp] theorem State.modArea_powered (s : State) (a : Nat) (f : Area → Area) : (s.modArea a f).powered = s.powered := rfl
@[simp] theorem State.modArea_fallbackStrap (s : State) (a : Nat) (f : Area → Area) : (s.modArea a f).fallbackStrap = s.fallbackStrap := rfl
@[simp] theorem State.modArea_contacts (s : State) (a : Nat) (f : Area → Area) : (s.modArea a f).contacts = s.contacts := rfl
@[simp] theorem State.modArea_channels (s : State) (a : Nat) (f : Area → Area) : (s.modArea a f).channels = s.channels := rfl
@[simp] theorem State.modArea_slotMap (s : State) (a : Nat) (f : Area → Area) : (s.modArea a f).slotMap = s.slotMap := rfl
@[simp] theorem State.modArea_port (s : State) (a : Nat) (f : Area → Area) : (s.modArea a f).port = s.port := rfl
@[simp] theorem State.modArea_delay (s : State) (a : Nat) (f : Area → Area) : (s.modArea a f).delay = s.delay := rfl
@[simp] theorem State.modArea_lines (s : State) (a : Nat) (f : Area → Area) : (s.modArea a f).lines = s.lines := rfl
@[simp] theorem State.modArea_cells (s : State) (a : Nat) (f : Area → Area) : (s.modArea a f).cells = s.cells := rfl
@[simp] theorem State.modArea_zones (s : State) (a : Nat) (f : Area → Area) : (s.modArea a f).zones = s.zones := rfl
@[simp] theorem State.modArea_proving (s : State) (a : Nat) (f : Area → Area) : (s.modArea a f).proving = s.proving := rfl
@[simp] theorem State.modArea_overrides (s : State) (a : Nat) (f : Area → Area) : (s.modArea a f).overrides = s.overrides := rfl
@[simp] theorem State.modArea_overrideEnable (s : State) (a : Nat) (f : Area → Area) : (s.modArea a f).overrideEnable = s.overrideEnable := rfl
@[simp] theorem State.modArea_holder (s : State) (a : Nat) (f : Area → Area) : (s.modArea a f).holder = s.holder := rfl
@[simp] theorem State.modArea_standby (s : State) (a : Nat) (f : Area → Area) : (s.modArea a f).standby = s.standby := rfl
@[simp] theorem State.modArea_standbyTaken (s : State) (a : Nat) (f : Area → Area) : (s.modArea a f).standbyTaken = s.standbyTaken := rfl
@[simp] theorem State.modArea_link (s : State) (a : Nat) (f : Area → Area) : (s.modArea a f).link = s.link := rfl
@[simp] theorem State.modArea_status (s : State) (a : Nat) (f : Area → Area) : (s.modArea a f).status = s.status := rfl
@[simp] theorem State.modArea_unitKey (s : State) (a : Nat) (f : Area → Area) : (s.modArea a f).unitKey = s.unitKey := rfl
@[simp] theorem State.modArea_queue (s : State) (a : Nat) (f : Area → Area) : (s.modArea a f).queue = s.queue := rfl
@[simp] theorem State.modArea_sequence (s : State) (a : Nat) (f : Area → Area) : (s.modArea a f).sequence = s.sequence := rfl
@[simp] theorem State.modArea_kindMask (s : State) (a : Nat) (f : Area → Area) : (s.modArea a f).kindMask = s.kindMask := rfl
@[simp] theorem State.modArea_suppress (s : State) (a : Nat) (f : Area → Area) : (s.modArea a f).suppress = s.suppress := rfl
@[simp] theorem State.modArea_reporting (s : State) (a : Nat) (f : Area → Area) : (s.modArea a f).reporting = s.reporting := rfl
@[simp] theorem State.modArea_outcome (s : State) (a : Nat) (f : Area → Area) : (s.modArea a f).outcome = s.outcome := rfl
@[simp] theorem State.modArea_audioReset (s : State) (a : Nat) (f : Area → Area) : (s.modArea a f).audioReset = s.audioReset := rfl
@[simp] theorem State.modArea_allocClear (s : State) (a : Nat) (f : Area → Area) : (s.modArea a f).allocClear = s.allocClear := rfl
@[simp] theorem State.modArea_flush (s : State) (a : Nat) (f : Area → Area) : (s.modArea a f).flush = s.flush := rfl
@[simp] theorem State.modArea_save (s : State) (a : Nat) (f : Area → Area) : (s.modArea a f).save = s.save := rfl
@[simp] theorem State.modArea_load (s : State) (a : Nat) (f : Area → Area) : (s.modArea a f).load = s.load := rfl
@[simp] theorem State.modArea_fallbackDue (s : State) (a : Nat) (f : Area → Area) : (s.modArea a f).fallbackDue = s.fallbackDue := rfl
@[simp] theorem State.modArea_image (s : State) (a : Nat) (f : Area → Area) : (s.modArea a f).image = s.image := rfl
@[simp] theorem State.modArea_posts (s : State) (a : Nat) (f : Area → Area) : (s.modArea a f).posts = s.posts := rfl
@[simp] theorem State.modArea_early (s : State) (a : Nat) (f : Area → Area) : (s.modArea a f).early = s.early := rfl
@[simp] theorem State.modArea_choices (s : State) (a : Nat) (f : Area → Area) : (s.modArea a f).choices = s.choices := rfl

/-! ## `State.modZone` -/

@[simp] theorem State.modZone_pending (s : State) (z : Nat) (f : Zone → Zone) : (s.modZone z f).pending = s.pending := rfl
@[simp] theorem State.modZone_powered (s : State) (z : Nat) (f : Zone → Zone) : (s.modZone z f).powered = s.powered := rfl
@[simp] theorem State.modZone_fallbackStrap (s : State) (z : Nat) (f : Zone → Zone) : (s.modZone z f).fallbackStrap = s.fallbackStrap := rfl
@[simp] theorem State.modZone_contacts (s : State) (z : Nat) (f : Zone → Zone) : (s.modZone z f).contacts = s.contacts := rfl
@[simp] theorem State.modZone_areas (s : State) (z : Nat) (f : Zone → Zone) : (s.modZone z f).areas = s.areas := rfl
@[simp] theorem State.modZone_channels (s : State) (z : Nat) (f : Zone → Zone) : (s.modZone z f).channels = s.channels := rfl
@[simp] theorem State.modZone_slotMap (s : State) (z : Nat) (f : Zone → Zone) : (s.modZone z f).slotMap = s.slotMap := rfl
@[simp] theorem State.modZone_port (s : State) (z : Nat) (f : Zone → Zone) : (s.modZone z f).port = s.port := rfl
@[simp] theorem State.modZone_delay (s : State) (z : Nat) (f : Zone → Zone) : (s.modZone z f).delay = s.delay := rfl
@[simp] theorem State.modZone_lines (s : State) (z : Nat) (f : Zone → Zone) : (s.modZone z f).lines = s.lines := rfl
@[simp] theorem State.modZone_cells (s : State) (z : Nat) (f : Zone → Zone) : (s.modZone z f).cells = s.cells := rfl
@[simp] theorem State.modZone_proving (s : State) (z : Nat) (f : Zone → Zone) : (s.modZone z f).proving = s.proving := rfl
@[simp] theorem State.modZone_overrides (s : State) (z : Nat) (f : Zone → Zone) : (s.modZone z f).overrides = s.overrides := rfl
@[simp] theorem State.modZone_overrideEnable (s : State) (z : Nat) (f : Zone → Zone) : (s.modZone z f).overrideEnable = s.overrideEnable := rfl
@[simp] theorem State.modZone_holder (s : State) (z : Nat) (f : Zone → Zone) : (s.modZone z f).holder = s.holder := rfl
@[simp] theorem State.modZone_standby (s : State) (z : Nat) (f : Zone → Zone) : (s.modZone z f).standby = s.standby := rfl
@[simp] theorem State.modZone_standbyTaken (s : State) (z : Nat) (f : Zone → Zone) : (s.modZone z f).standbyTaken = s.standbyTaken := rfl
@[simp] theorem State.modZone_link (s : State) (z : Nat) (f : Zone → Zone) : (s.modZone z f).link = s.link := rfl
@[simp] theorem State.modZone_status (s : State) (z : Nat) (f : Zone → Zone) : (s.modZone z f).status = s.status := rfl
@[simp] theorem State.modZone_unitKey (s : State) (z : Nat) (f : Zone → Zone) : (s.modZone z f).unitKey = s.unitKey := rfl
@[simp] theorem State.modZone_queue (s : State) (z : Nat) (f : Zone → Zone) : (s.modZone z f).queue = s.queue := rfl
@[simp] theorem State.modZone_sequence (s : State) (z : Nat) (f : Zone → Zone) : (s.modZone z f).sequence = s.sequence := rfl
@[simp] theorem State.modZone_kindMask (s : State) (z : Nat) (f : Zone → Zone) : (s.modZone z f).kindMask = s.kindMask := rfl
@[simp] theorem State.modZone_suppress (s : State) (z : Nat) (f : Zone → Zone) : (s.modZone z f).suppress = s.suppress := rfl
@[simp] theorem State.modZone_reporting (s : State) (z : Nat) (f : Zone → Zone) : (s.modZone z f).reporting = s.reporting := rfl
@[simp] theorem State.modZone_outcome (s : State) (z : Nat) (f : Zone → Zone) : (s.modZone z f).outcome = s.outcome := rfl
@[simp] theorem State.modZone_audioReset (s : State) (z : Nat) (f : Zone → Zone) : (s.modZone z f).audioReset = s.audioReset := rfl
@[simp] theorem State.modZone_allocClear (s : State) (z : Nat) (f : Zone → Zone) : (s.modZone z f).allocClear = s.allocClear := rfl
@[simp] theorem State.modZone_flush (s : State) (z : Nat) (f : Zone → Zone) : (s.modZone z f).flush = s.flush := rfl
@[simp] theorem State.modZone_save (s : State) (z : Nat) (f : Zone → Zone) : (s.modZone z f).save = s.save := rfl
@[simp] theorem State.modZone_load (s : State) (z : Nat) (f : Zone → Zone) : (s.modZone z f).load = s.load := rfl
@[simp] theorem State.modZone_fallbackDue (s : State) (z : Nat) (f : Zone → Zone) : (s.modZone z f).fallbackDue = s.fallbackDue := rfl
@[simp] theorem State.modZone_image (s : State) (z : Nat) (f : Zone → Zone) : (s.modZone z f).image = s.image := rfl
@[simp] theorem State.modZone_posts (s : State) (z : Nat) (f : Zone → Zone) : (s.modZone z f).posts = s.posts := rfl
@[simp] theorem State.modZone_early (s : State) (z : Nat) (f : Zone → Zone) : (s.modZone z f).early = s.early := rfl
@[simp] theorem State.modZone_choices (s : State) (z : Nat) (f : Zone → Zone) : (s.modZone z f).choices = s.choices := rfl

/-! ## `State.mapZones` -/

@[simp] theorem State.mapZones_pending (s : State) (f : Nat → Zone → Zone) : (s.mapZones f).pending = s.pending := rfl
@[simp] theorem State.mapZones_powered (s : State) (f : Nat → Zone → Zone) : (s.mapZones f).powered = s.powered := rfl
@[simp] theorem State.mapZones_fallbackStrap (s : State) (f : Nat → Zone → Zone) : (s.mapZones f).fallbackStrap = s.fallbackStrap := rfl
@[simp] theorem State.mapZones_contacts (s : State) (f : Nat → Zone → Zone) : (s.mapZones f).contacts = s.contacts := rfl
@[simp] theorem State.mapZones_areas (s : State) (f : Nat → Zone → Zone) : (s.mapZones f).areas = s.areas := rfl
@[simp] theorem State.mapZones_channels (s : State) (f : Nat → Zone → Zone) : (s.mapZones f).channels = s.channels := rfl
@[simp] theorem State.mapZones_slotMap (s : State) (f : Nat → Zone → Zone) : (s.mapZones f).slotMap = s.slotMap := rfl
@[simp] theorem State.mapZones_port (s : State) (f : Nat → Zone → Zone) : (s.mapZones f).port = s.port := rfl
@[simp] theorem State.mapZones_delay (s : State) (f : Nat → Zone → Zone) : (s.mapZones f).delay = s.delay := rfl
@[simp] theorem State.mapZones_lines (s : State) (f : Nat → Zone → Zone) : (s.mapZones f).lines = s.lines := rfl
@[simp] theorem State.mapZones_cells (s : State) (f : Nat → Zone → Zone) : (s.mapZones f).cells = s.cells := rfl
@[simp] theorem State.mapZones_proving (s : State) (f : Nat → Zone → Zone) : (s.mapZones f).proving = s.proving := rfl
@[simp] theorem State.mapZones_overrides (s : State) (f : Nat → Zone → Zone) : (s.mapZones f).overrides = s.overrides := rfl
@[simp] theorem State.mapZones_overrideEnable (s : State) (f : Nat → Zone → Zone) : (s.mapZones f).overrideEnable = s.overrideEnable := rfl
@[simp] theorem State.mapZones_holder (s : State) (f : Nat → Zone → Zone) : (s.mapZones f).holder = s.holder := rfl
@[simp] theorem State.mapZones_standby (s : State) (f : Nat → Zone → Zone) : (s.mapZones f).standby = s.standby := rfl
@[simp] theorem State.mapZones_standbyTaken (s : State) (f : Nat → Zone → Zone) : (s.mapZones f).standbyTaken = s.standbyTaken := rfl
@[simp] theorem State.mapZones_link (s : State) (f : Nat → Zone → Zone) : (s.mapZones f).link = s.link := rfl
@[simp] theorem State.mapZones_status (s : State) (f : Nat → Zone → Zone) : (s.mapZones f).status = s.status := rfl
@[simp] theorem State.mapZones_unitKey (s : State) (f : Nat → Zone → Zone) : (s.mapZones f).unitKey = s.unitKey := rfl
@[simp] theorem State.mapZones_queue (s : State) (f : Nat → Zone → Zone) : (s.mapZones f).queue = s.queue := rfl
@[simp] theorem State.mapZones_sequence (s : State) (f : Nat → Zone → Zone) : (s.mapZones f).sequence = s.sequence := rfl
@[simp] theorem State.mapZones_kindMask (s : State) (f : Nat → Zone → Zone) : (s.mapZones f).kindMask = s.kindMask := rfl
@[simp] theorem State.mapZones_suppress (s : State) (f : Nat → Zone → Zone) : (s.mapZones f).suppress = s.suppress := rfl
@[simp] theorem State.mapZones_reporting (s : State) (f : Nat → Zone → Zone) : (s.mapZones f).reporting = s.reporting := rfl
@[simp] theorem State.mapZones_outcome (s : State) (f : Nat → Zone → Zone) : (s.mapZones f).outcome = s.outcome := rfl
@[simp] theorem State.mapZones_audioReset (s : State) (f : Nat → Zone → Zone) : (s.mapZones f).audioReset = s.audioReset := rfl
@[simp] theorem State.mapZones_allocClear (s : State) (f : Nat → Zone → Zone) : (s.mapZones f).allocClear = s.allocClear := rfl
@[simp] theorem State.mapZones_flush (s : State) (f : Nat → Zone → Zone) : (s.mapZones f).flush = s.flush := rfl
@[simp] theorem State.mapZones_save (s : State) (f : Nat → Zone → Zone) : (s.mapZones f).save = s.save := rfl
@[simp] theorem State.mapZones_load (s : State) (f : Nat → Zone → Zone) : (s.mapZones f).load = s.load := rfl
@[simp] theorem State.mapZones_fallbackDue (s : State) (f : Nat → Zone → Zone) : (s.mapZones f).fallbackDue = s.fallbackDue := rfl
@[simp] theorem State.mapZones_image (s : State) (f : Nat → Zone → Zone) : (s.mapZones f).image = s.image := rfl
@[simp] theorem State.mapZones_posts (s : State) (f : Nat → Zone → Zone) : (s.mapZones f).posts = s.posts := rfl
@[simp] theorem State.mapZones_early (s : State) (f : Nat → Zone → Zone) : (s.mapZones f).early = s.early := rfl
@[simp] theorem State.mapZones_choices (s : State) (f : Nat → Zone → Zone) : (s.mapZones f).choices = s.choices := rfl

/-! ## `State.modChannel` -/

@[simp] theorem State.modChannel_pending (s : State) (c : Nat) (f : Channel → Channel) : (s.modChannel c f).pending = s.pending := rfl
@[simp] theorem State.modChannel_powered (s : State) (c : Nat) (f : Channel → Channel) : (s.modChannel c f).powered = s.powered := rfl
@[simp] theorem State.modChannel_fallbackStrap (s : State) (c : Nat) (f : Channel → Channel) : (s.modChannel c f).fallbackStrap = s.fallbackStrap := rfl
@[simp] theorem State.modChannel_contacts (s : State) (c : Nat) (f : Channel → Channel) : (s.modChannel c f).contacts = s.contacts := rfl
@[simp] theorem State.modChannel_areas (s : State) (c : Nat) (f : Channel → Channel) : (s.modChannel c f).areas = s.areas := rfl
@[simp] theorem State.modChannel_slotMap (s : State) (c : Nat) (f : Channel → Channel) : (s.modChannel c f).slotMap = s.slotMap := rfl
@[simp] theorem State.modChannel_port (s : State) (c : Nat) (f : Channel → Channel) : (s.modChannel c f).port = s.port := rfl
@[simp] theorem State.modChannel_delay (s : State) (c : Nat) (f : Channel → Channel) : (s.modChannel c f).delay = s.delay := rfl
@[simp] theorem State.modChannel_lines (s : State) (c : Nat) (f : Channel → Channel) : (s.modChannel c f).lines = s.lines := rfl
@[simp] theorem State.modChannel_cells (s : State) (c : Nat) (f : Channel → Channel) : (s.modChannel c f).cells = s.cells := rfl
@[simp] theorem State.modChannel_zones (s : State) (c : Nat) (f : Channel → Channel) : (s.modChannel c f).zones = s.zones := rfl
@[simp] theorem State.modChannel_proving (s : State) (c : Nat) (f : Channel → Channel) : (s.modChannel c f).proving = s.proving := rfl
@[simp] theorem State.modChannel_overrides (s : State) (c : Nat) (f : Channel → Channel) : (s.modChannel c f).overrides = s.overrides := rfl
@[simp] theorem State.modChannel_overrideEnable (s : State) (c : Nat) (f : Channel → Channel) : (s.modChannel c f).overrideEnable = s.overrideEnable := rfl
@[simp] theorem State.modChannel_holder (s : State) (c : Nat) (f : Channel → Channel) : (s.modChannel c f).holder = s.holder := rfl
@[simp] theorem State.modChannel_standby (s : State) (c : Nat) (f : Channel → Channel) : (s.modChannel c f).standby = s.standby := rfl
@[simp] theorem State.modChannel_standbyTaken (s : State) (c : Nat) (f : Channel → Channel) : (s.modChannel c f).standbyTaken = s.standbyTaken := rfl
@[simp] theorem State.modChannel_link (s : State) (c : Nat) (f : Channel → Channel) : (s.modChannel c f).link = s.link := rfl
@[simp] theorem State.modChannel_status (s : State) (c : Nat) (f : Channel → Channel) : (s.modChannel c f).status = s.status := rfl
@[simp] theorem State.modChannel_unitKey (s : State) (c : Nat) (f : Channel → Channel) : (s.modChannel c f).unitKey = s.unitKey := rfl
@[simp] theorem State.modChannel_queue (s : State) (c : Nat) (f : Channel → Channel) : (s.modChannel c f).queue = s.queue := rfl
@[simp] theorem State.modChannel_sequence (s : State) (c : Nat) (f : Channel → Channel) : (s.modChannel c f).sequence = s.sequence := rfl
@[simp] theorem State.modChannel_kindMask (s : State) (c : Nat) (f : Channel → Channel) : (s.modChannel c f).kindMask = s.kindMask := rfl
@[simp] theorem State.modChannel_suppress (s : State) (c : Nat) (f : Channel → Channel) : (s.modChannel c f).suppress = s.suppress := rfl
@[simp] theorem State.modChannel_reporting (s : State) (c : Nat) (f : Channel → Channel) : (s.modChannel c f).reporting = s.reporting := rfl
@[simp] theorem State.modChannel_outcome (s : State) (c : Nat) (f : Channel → Channel) : (s.modChannel c f).outcome = s.outcome := rfl
@[simp] theorem State.modChannel_audioReset (s : State) (c : Nat) (f : Channel → Channel) : (s.modChannel c f).audioReset = s.audioReset := rfl
@[simp] theorem State.modChannel_allocClear (s : State) (c : Nat) (f : Channel → Channel) : (s.modChannel c f).allocClear = s.allocClear := rfl
@[simp] theorem State.modChannel_flush (s : State) (c : Nat) (f : Channel → Channel) : (s.modChannel c f).flush = s.flush := rfl
@[simp] theorem State.modChannel_save (s : State) (c : Nat) (f : Channel → Channel) : (s.modChannel c f).save = s.save := rfl
@[simp] theorem State.modChannel_load (s : State) (c : Nat) (f : Channel → Channel) : (s.modChannel c f).load = s.load := rfl
@[simp] theorem State.modChannel_fallbackDue (s : State) (c : Nat) (f : Channel → Channel) : (s.modChannel c f).fallbackDue = s.fallbackDue := rfl
@[simp] theorem State.modChannel_image (s : State) (c : Nat) (f : Channel → Channel) : (s.modChannel c f).image = s.image := rfl
@[simp] theorem State.modChannel_posts (s : State) (c : Nat) (f : Channel → Channel) : (s.modChannel c f).posts = s.posts := rfl
@[simp] theorem State.modChannel_early (s : State) (c : Nat) (f : Channel → Channel) : (s.modChannel c f).early = s.early := rfl
@[simp] theorem State.modChannel_choices (s : State) (c : Nat) (f : Channel → Channel) : (s.modChannel c f).choices = s.choices := rfl

/-! ## `State.modLine` -/

@[simp] theorem State.modLine_pending (s : State) (k : Nat) (f : DelayLine → DelayLine) : (s.modLine k f).pending = s.pending := rfl
@[simp] theorem State.modLine_powered (s : State) (k : Nat) (f : DelayLine → DelayLine) : (s.modLine k f).powered = s.powered := rfl
@[simp] theorem State.modLine_fallbackStrap (s : State) (k : Nat) (f : DelayLine → DelayLine) : (s.modLine k f).fallbackStrap = s.fallbackStrap := rfl
@[simp] theorem State.modLine_contacts (s : State) (k : Nat) (f : DelayLine → DelayLine) : (s.modLine k f).contacts = s.contacts := rfl
@[simp] theorem State.modLine_areas (s : State) (k : Nat) (f : DelayLine → DelayLine) : (s.modLine k f).areas = s.areas := rfl
@[simp] theorem State.modLine_channels (s : State) (k : Nat) (f : DelayLine → DelayLine) : (s.modLine k f).channels = s.channels := rfl
@[simp] theorem State.modLine_slotMap (s : State) (k : Nat) (f : DelayLine → DelayLine) : (s.modLine k f).slotMap = s.slotMap := rfl
@[simp] theorem State.modLine_port (s : State) (k : Nat) (f : DelayLine → DelayLine) : (s.modLine k f).port = s.port := rfl
@[simp] theorem State.modLine_delay (s : State) (k : Nat) (f : DelayLine → DelayLine) : (s.modLine k f).delay = s.delay := rfl
@[simp] theorem State.modLine_cells (s : State) (k : Nat) (f : DelayLine → DelayLine) : (s.modLine k f).cells = s.cells := rfl
@[simp] theorem State.modLine_zones (s : State) (k : Nat) (f : DelayLine → DelayLine) : (s.modLine k f).zones = s.zones := rfl
@[simp] theorem State.modLine_proving (s : State) (k : Nat) (f : DelayLine → DelayLine) : (s.modLine k f).proving = s.proving := rfl
@[simp] theorem State.modLine_overrides (s : State) (k : Nat) (f : DelayLine → DelayLine) : (s.modLine k f).overrides = s.overrides := rfl
@[simp] theorem State.modLine_overrideEnable (s : State) (k : Nat) (f : DelayLine → DelayLine) : (s.modLine k f).overrideEnable = s.overrideEnable := rfl
@[simp] theorem State.modLine_holder (s : State) (k : Nat) (f : DelayLine → DelayLine) : (s.modLine k f).holder = s.holder := rfl
@[simp] theorem State.modLine_standby (s : State) (k : Nat) (f : DelayLine → DelayLine) : (s.modLine k f).standby = s.standby := rfl
@[simp] theorem State.modLine_standbyTaken (s : State) (k : Nat) (f : DelayLine → DelayLine) : (s.modLine k f).standbyTaken = s.standbyTaken := rfl
@[simp] theorem State.modLine_link (s : State) (k : Nat) (f : DelayLine → DelayLine) : (s.modLine k f).link = s.link := rfl
@[simp] theorem State.modLine_status (s : State) (k : Nat) (f : DelayLine → DelayLine) : (s.modLine k f).status = s.status := rfl
@[simp] theorem State.modLine_unitKey (s : State) (k : Nat) (f : DelayLine → DelayLine) : (s.modLine k f).unitKey = s.unitKey := rfl
@[simp] theorem State.modLine_queue (s : State) (k : Nat) (f : DelayLine → DelayLine) : (s.modLine k f).queue = s.queue := rfl
@[simp] theorem State.modLine_sequence (s : State) (k : Nat) (f : DelayLine → DelayLine) : (s.modLine k f).sequence = s.sequence := rfl
@[simp] theorem State.modLine_kindMask (s : State) (k : Nat) (f : DelayLine → DelayLine) : (s.modLine k f).kindMask = s.kindMask := rfl
@[simp] theorem State.modLine_suppress (s : State) (k : Nat) (f : DelayLine → DelayLine) : (s.modLine k f).suppress = s.suppress := rfl
@[simp] theorem State.modLine_reporting (s : State) (k : Nat) (f : DelayLine → DelayLine) : (s.modLine k f).reporting = s.reporting := rfl
@[simp] theorem State.modLine_outcome (s : State) (k : Nat) (f : DelayLine → DelayLine) : (s.modLine k f).outcome = s.outcome := rfl
@[simp] theorem State.modLine_audioReset (s : State) (k : Nat) (f : DelayLine → DelayLine) : (s.modLine k f).audioReset = s.audioReset := rfl
@[simp] theorem State.modLine_allocClear (s : State) (k : Nat) (f : DelayLine → DelayLine) : (s.modLine k f).allocClear = s.allocClear := rfl
@[simp] theorem State.modLine_flush (s : State) (k : Nat) (f : DelayLine → DelayLine) : (s.modLine k f).flush = s.flush := rfl
@[simp] theorem State.modLine_save (s : State) (k : Nat) (f : DelayLine → DelayLine) : (s.modLine k f).save = s.save := rfl
@[simp] theorem State.modLine_load (s : State) (k : Nat) (f : DelayLine → DelayLine) : (s.modLine k f).load = s.load := rfl
@[simp] theorem State.modLine_fallbackDue (s : State) (k : Nat) (f : DelayLine → DelayLine) : (s.modLine k f).fallbackDue = s.fallbackDue := rfl
@[simp] theorem State.modLine_image (s : State) (k : Nat) (f : DelayLine → DelayLine) : (s.modLine k f).image = s.image := rfl
@[simp] theorem State.modLine_posts (s : State) (k : Nat) (f : DelayLine → DelayLine) : (s.modLine k f).posts = s.posts := rfl
@[simp] theorem State.modLine_early (s : State) (k : Nat) (f : DelayLine → DelayLine) : (s.modLine k f).early = s.early := rfl
@[simp] theorem State.modLine_choices (s : State) (k : Nat) (f : DelayLine → DelayLine) : (s.modLine k f).choices = s.choices := rfl

/-! ## `State.modOv` -/

@[simp] theorem State.modOv_pending (s : State) (l : OvLine) (f : Override → Override) : (s.modOv l f).pending = s.pending := rfl
@[simp] theorem State.modOv_powered (s : State) (l : OvLine) (f : Override → Override) : (s.modOv l f).powered = s.powered := rfl
@[simp] theorem State.modOv_fallbackStrap (s : State) (l : OvLine) (f : Override → Override) : (s.modOv l f).fallbackStrap = s.fallbackStrap := rfl
@[simp] theorem State.modOv_contacts (s : State) (l : OvLine) (f : Override → Override) : (s.modOv l f).contacts = s.contacts := rfl
@[simp] theorem State.modOv_areas (s : State) (l : OvLine) (f : Override → Override) : (s.modOv l f).areas = s.areas := rfl
@[simp] theorem State.modOv_channels (s : State) (l : OvLine) (f : Override → Override) : (s.modOv l f).channels = s.channels := rfl
@[simp] theorem State.modOv_slotMap (s : State) (l : OvLine) (f : Override → Override) : (s.modOv l f).slotMap = s.slotMap := rfl
@[simp] theorem State.modOv_port (s : State) (l : OvLine) (f : Override → Override) : (s.modOv l f).port = s.port := rfl
@[simp] theorem State.modOv_delay (s : State) (l : OvLine) (f : Override → Override) : (s.modOv l f).delay = s.delay := rfl
@[simp] theorem State.modOv_lines (s : State) (l : OvLine) (f : Override → Override) : (s.modOv l f).lines = s.lines := rfl
@[simp] theorem State.modOv_cells (s : State) (l : OvLine) (f : Override → Override) : (s.modOv l f).cells = s.cells := rfl
@[simp] theorem State.modOv_zones (s : State) (l : OvLine) (f : Override → Override) : (s.modOv l f).zones = s.zones := rfl
@[simp] theorem State.modOv_proving (s : State) (l : OvLine) (f : Override → Override) : (s.modOv l f).proving = s.proving := rfl
@[simp] theorem State.modOv_overrideEnable (s : State) (l : OvLine) (f : Override → Override) : (s.modOv l f).overrideEnable = s.overrideEnable := rfl
@[simp] theorem State.modOv_holder (s : State) (l : OvLine) (f : Override → Override) : (s.modOv l f).holder = s.holder := rfl
@[simp] theorem State.modOv_standby (s : State) (l : OvLine) (f : Override → Override) : (s.modOv l f).standby = s.standby := rfl
@[simp] theorem State.modOv_standbyTaken (s : State) (l : OvLine) (f : Override → Override) : (s.modOv l f).standbyTaken = s.standbyTaken := rfl
@[simp] theorem State.modOv_link (s : State) (l : OvLine) (f : Override → Override) : (s.modOv l f).link = s.link := rfl
@[simp] theorem State.modOv_status (s : State) (l : OvLine) (f : Override → Override) : (s.modOv l f).status = s.status := rfl
@[simp] theorem State.modOv_unitKey (s : State) (l : OvLine) (f : Override → Override) : (s.modOv l f).unitKey = s.unitKey := rfl
@[simp] theorem State.modOv_queue (s : State) (l : OvLine) (f : Override → Override) : (s.modOv l f).queue = s.queue := rfl
@[simp] theorem State.modOv_sequence (s : State) (l : OvLine) (f : Override → Override) : (s.modOv l f).sequence = s.sequence := rfl
@[simp] theorem State.modOv_kindMask (s : State) (l : OvLine) (f : Override → Override) : (s.modOv l f).kindMask = s.kindMask := rfl
@[simp] theorem State.modOv_suppress (s : State) (l : OvLine) (f : Override → Override) : (s.modOv l f).suppress = s.suppress := rfl
@[simp] theorem State.modOv_reporting (s : State) (l : OvLine) (f : Override → Override) : (s.modOv l f).reporting = s.reporting := rfl
@[simp] theorem State.modOv_outcome (s : State) (l : OvLine) (f : Override → Override) : (s.modOv l f).outcome = s.outcome := rfl
@[simp] theorem State.modOv_audioReset (s : State) (l : OvLine) (f : Override → Override) : (s.modOv l f).audioReset = s.audioReset := rfl
@[simp] theorem State.modOv_allocClear (s : State) (l : OvLine) (f : Override → Override) : (s.modOv l f).allocClear = s.allocClear := rfl
@[simp] theorem State.modOv_flush (s : State) (l : OvLine) (f : Override → Override) : (s.modOv l f).flush = s.flush := rfl
@[simp] theorem State.modOv_save (s : State) (l : OvLine) (f : Override → Override) : (s.modOv l f).save = s.save := rfl
@[simp] theorem State.modOv_load (s : State) (l : OvLine) (f : Override → Override) : (s.modOv l f).load = s.load := rfl
@[simp] theorem State.modOv_fallbackDue (s : State) (l : OvLine) (f : Override → Override) : (s.modOv l f).fallbackDue = s.fallbackDue := rfl
@[simp] theorem State.modOv_image (s : State) (l : OvLine) (f : Override → Override) : (s.modOv l f).image = s.image := rfl
@[simp] theorem State.modOv_posts (s : State) (l : OvLine) (f : Override → Override) : (s.modOv l f).posts = s.posts := rfl
@[simp] theorem State.modOv_early (s : State) (l : OvLine) (f : Override → Override) : (s.modOv l f).early = s.early := rfl
@[simp] theorem State.modOv_choices (s : State) (l : OvLine) (f : Override → Override) : (s.modOv l f).choices = s.choices := rfl

/-! ## `State.markEarly` -/

@[simp] theorem State.markEarly_pending (s : State) (e : Early) : (s.markEarly e).pending = s.pending := rfl
@[simp] theorem State.markEarly_powered (s : State) (e : Early) : (s.markEarly e).powered = s.powered := rfl
@[simp] theorem State.markEarly_fallbackStrap (s : State) (e : Early) : (s.markEarly e).fallbackStrap = s.fallbackStrap := rfl
@[simp] theorem State.markEarly_contacts (s : State) (e : Early) : (s.markEarly e).contacts = s.contacts := rfl
@[simp] theorem State.markEarly_areas (s : State) (e : Early) : (s.markEarly e).areas = s.areas := rfl
@[simp] theorem State.markEarly_channels (s : State) (e : Early) : (s.markEarly e).channels = s.channels := rfl
@[simp] theorem State.markEarly_slotMap (s : State) (e : Early) : (s.markEarly e).slotMap = s.slotMap := rfl
@[simp] theorem State.markEarly_port (s : State) (e : Early) : (s.markEarly e).port = s.port := rfl
@[simp] theorem State.markEarly_delay (s : State) (e : Early) : (s.markEarly e).delay = s.delay := rfl
@[simp] theorem State.markEarly_lines (s : State) (e : Early) : (s.markEarly e).lines = s.lines := rfl
@[simp] theorem State.markEarly_cells (s : State) (e : Early) : (s.markEarly e).cells = s.cells := rfl
@[simp] theorem State.markEarly_zones (s : State) (e : Early) : (s.markEarly e).zones = s.zones := rfl
@[simp] theorem State.markEarly_proving (s : State) (e : Early) : (s.markEarly e).proving = s.proving := rfl
@[simp] theorem State.markEarly_overrides (s : State) (e : Early) : (s.markEarly e).overrides = s.overrides := rfl
@[simp] theorem State.markEarly_overrideEnable (s : State) (e : Early) : (s.markEarly e).overrideEnable = s.overrideEnable := rfl
@[simp] theorem State.markEarly_holder (s : State) (e : Early) : (s.markEarly e).holder = s.holder := rfl
@[simp] theorem State.markEarly_standby (s : State) (e : Early) : (s.markEarly e).standby = s.standby := rfl
@[simp] theorem State.markEarly_standbyTaken (s : State) (e : Early) : (s.markEarly e).standbyTaken = s.standbyTaken := rfl
@[simp] theorem State.markEarly_link (s : State) (e : Early) : (s.markEarly e).link = s.link := rfl
@[simp] theorem State.markEarly_status (s : State) (e : Early) : (s.markEarly e).status = s.status := rfl
@[simp] theorem State.markEarly_unitKey (s : State) (e : Early) : (s.markEarly e).unitKey = s.unitKey := rfl
@[simp] theorem State.markEarly_queue (s : State) (e : Early) : (s.markEarly e).queue = s.queue := rfl
@[simp] theorem State.markEarly_sequence (s : State) (e : Early) : (s.markEarly e).sequence = s.sequence := rfl
@[simp] theorem State.markEarly_kindMask (s : State) (e : Early) : (s.markEarly e).kindMask = s.kindMask := rfl
@[simp] theorem State.markEarly_suppress (s : State) (e : Early) : (s.markEarly e).suppress = s.suppress := rfl
@[simp] theorem State.markEarly_reporting (s : State) (e : Early) : (s.markEarly e).reporting = s.reporting := rfl
@[simp] theorem State.markEarly_outcome (s : State) (e : Early) : (s.markEarly e).outcome = s.outcome := rfl
@[simp] theorem State.markEarly_audioReset (s : State) (e : Early) : (s.markEarly e).audioReset = s.audioReset := rfl
@[simp] theorem State.markEarly_allocClear (s : State) (e : Early) : (s.markEarly e).allocClear = s.allocClear := rfl
@[simp] theorem State.markEarly_flush (s : State) (e : Early) : (s.markEarly e).flush = s.flush := rfl
@[simp] theorem State.markEarly_save (s : State) (e : Early) : (s.markEarly e).save = s.save := rfl
@[simp] theorem State.markEarly_load (s : State) (e : Early) : (s.markEarly e).load = s.load := rfl
@[simp] theorem State.markEarly_fallbackDue (s : State) (e : Early) : (s.markEarly e).fallbackDue = s.fallbackDue := rfl
@[simp] theorem State.markEarly_image (s : State) (e : Early) : (s.markEarly e).image = s.image := rfl
@[simp] theorem State.markEarly_posts (s : State) (e : Early) : (s.markEarly e).posts = s.posts := rfl
@[simp] theorem State.markEarly_choices (s : State) (e : Early) : (s.markEarly e).choices = s.choices := rfl

/-! ## `State.zeroAllLines` -/

@[simp] theorem State.zeroAllLines_pending (s : State) : (s.zeroAllLines).pending = s.pending := rfl
@[simp] theorem State.zeroAllLines_powered (s : State) : (s.zeroAllLines).powered = s.powered := rfl
@[simp] theorem State.zeroAllLines_fallbackStrap (s : State) : (s.zeroAllLines).fallbackStrap = s.fallbackStrap := rfl
@[simp] theorem State.zeroAllLines_contacts (s : State) : (s.zeroAllLines).contacts = s.contacts := rfl
@[simp] theorem State.zeroAllLines_areas (s : State) : (s.zeroAllLines).areas = s.areas := rfl
@[simp] theorem State.zeroAllLines_channels (s : State) : (s.zeroAllLines).channels = s.channels := rfl
@[simp] theorem State.zeroAllLines_slotMap (s : State) : (s.zeroAllLines).slotMap = s.slotMap := rfl
@[simp] theorem State.zeroAllLines_port (s : State) : (s.zeroAllLines).port = s.port := rfl
@[simp] theorem State.zeroAllLines_delay (s : State) : (s.zeroAllLines).delay = s.delay := rfl
@[simp] theorem State.zeroAllLines_zones (s : State) : (s.zeroAllLines).zones = s.zones := rfl
@[simp] theorem State.zeroAllLines_proving (s : State) : (s.zeroAllLines).proving = s.proving := rfl
@[simp] theorem State.zeroAllLines_overrides (s : State) : (s.zeroAllLines).overrides = s.overrides := rfl
@[simp] theorem State.zeroAllLines_overrideEnable (s : State) : (s.zeroAllLines).overrideEnable = s.overrideEnable := rfl
@[simp] theorem State.zeroAllLines_holder (s : State) : (s.zeroAllLines).holder = s.holder := rfl
@[simp] theorem State.zeroAllLines_standby (s : State) : (s.zeroAllLines).standby = s.standby := rfl
@[simp] theorem State.zeroAllLines_standbyTaken (s : State) : (s.zeroAllLines).standbyTaken = s.standbyTaken := rfl
@[simp] theorem State.zeroAllLines_link (s : State) : (s.zeroAllLines).link = s.link := rfl
@[simp] theorem State.zeroAllLines_status (s : State) : (s.zeroAllLines).status = s.status := rfl
@[simp] theorem State.zeroAllLines_unitKey (s : State) : (s.zeroAllLines).unitKey = s.unitKey := rfl
@[simp] theorem State.zeroAllLines_queue (s : State) : (s.zeroAllLines).queue = s.queue := rfl
@[simp] theorem State.zeroAllLines_sequence (s : State) : (s.zeroAllLines).sequence = s.sequence := rfl
@[simp] theorem State.zeroAllLines_kindMask (s : State) : (s.zeroAllLines).kindMask = s.kindMask := rfl
@[simp] theorem State.zeroAllLines_suppress (s : State) : (s.zeroAllLines).suppress = s.suppress := rfl
@[simp] theorem State.zeroAllLines_reporting (s : State) : (s.zeroAllLines).reporting = s.reporting := rfl
@[simp] theorem State.zeroAllLines_outcome (s : State) : (s.zeroAllLines).outcome = s.outcome := rfl
@[simp] theorem State.zeroAllLines_audioReset (s : State) : (s.zeroAllLines).audioReset = s.audioReset := rfl
@[simp] theorem State.zeroAllLines_allocClear (s : State) : (s.zeroAllLines).allocClear = s.allocClear := rfl
@[simp] theorem State.zeroAllLines_flush (s : State) : (s.zeroAllLines).flush = s.flush := rfl
@[simp] theorem State.zeroAllLines_save (s : State) : (s.zeroAllLines).save = s.save := rfl
@[simp] theorem State.zeroAllLines_load (s : State) : (s.zeroAllLines).load = s.load := rfl
@[simp] theorem State.zeroAllLines_fallbackDue (s : State) : (s.zeroAllLines).fallbackDue = s.fallbackDue := rfl
@[simp] theorem State.zeroAllLines_image (s : State) : (s.zeroAllLines).image = s.image := rfl
@[simp] theorem State.zeroAllLines_posts (s : State) : (s.zeroAllLines).posts = s.posts := rfl
@[simp] theorem State.zeroAllLines_early (s : State) : (s.zeroAllLines).early = s.early := rfl
@[simp] theorem State.zeroAllLines_choices (s : State) : (s.zeroAllLines).choices = s.choices := rfl

/-! ## `State.postAt` -/

@[simp] theorem State.postAt_pending (s : State) (b : Block) (k : NoticeKind) (n : Nat) (v : List Field) (m : Nat) : (s.postAt b k n v m).pending = s.pending := rfl
@[simp] theorem State.postAt_powered (s : State) (b : Block) (k : NoticeKind) (n : Nat) (v : List Field) (m : Nat) : (s.postAt b k n v m).powered = s.powered := rfl
@[simp] theorem State.postAt_fallbackStrap (s : State) (b : Block) (k : NoticeKind) (n : Nat) (v : List Field) (m : Nat) : (s.postAt b k n v m).fallbackStrap = s.fallbackStrap := rfl
@[simp] theorem State.postAt_contacts (s : State) (b : Block) (k : NoticeKind) (n : Nat) (v : List Field) (m : Nat) : (s.postAt b k n v m).contacts = s.contacts := rfl
@[simp] theorem State.postAt_areas (s : State) (b : Block) (k : NoticeKind) (n : Nat) (v : List Field) (m : Nat) : (s.postAt b k n v m).areas = s.areas := rfl
@[simp] theorem State.postAt_channels (s : State) (b : Block) (k : NoticeKind) (n : Nat) (v : List Field) (m : Nat) : (s.postAt b k n v m).channels = s.channels := rfl
@[simp] theorem State.postAt_slotMap (s : State) (b : Block) (k : NoticeKind) (n : Nat) (v : List Field) (m : Nat) : (s.postAt b k n v m).slotMap = s.slotMap := rfl
@[simp] theorem State.postAt_port (s : State) (b : Block) (k : NoticeKind) (n : Nat) (v : List Field) (m : Nat) : (s.postAt b k n v m).port = s.port := rfl
@[simp] theorem State.postAt_delay (s : State) (b : Block) (k : NoticeKind) (n : Nat) (v : List Field) (m : Nat) : (s.postAt b k n v m).delay = s.delay := rfl
@[simp] theorem State.postAt_lines (s : State) (b : Block) (k : NoticeKind) (n : Nat) (v : List Field) (m : Nat) : (s.postAt b k n v m).lines = s.lines := rfl
@[simp] theorem State.postAt_cells (s : State) (b : Block) (k : NoticeKind) (n : Nat) (v : List Field) (m : Nat) : (s.postAt b k n v m).cells = s.cells := rfl
@[simp] theorem State.postAt_zones (s : State) (b : Block) (k : NoticeKind) (n : Nat) (v : List Field) (m : Nat) : (s.postAt b k n v m).zones = s.zones := rfl
@[simp] theorem State.postAt_proving (s : State) (b : Block) (k : NoticeKind) (n : Nat) (v : List Field) (m : Nat) : (s.postAt b k n v m).proving = s.proving := rfl
@[simp] theorem State.postAt_overrides (s : State) (b : Block) (k : NoticeKind) (n : Nat) (v : List Field) (m : Nat) : (s.postAt b k n v m).overrides = s.overrides := rfl
@[simp] theorem State.postAt_overrideEnable (s : State) (b : Block) (k : NoticeKind) (n : Nat) (v : List Field) (m : Nat) : (s.postAt b k n v m).overrideEnable = s.overrideEnable := rfl
@[simp] theorem State.postAt_holder (s : State) (b : Block) (k : NoticeKind) (n : Nat) (v : List Field) (m : Nat) : (s.postAt b k n v m).holder = s.holder := rfl
@[simp] theorem State.postAt_standby (s : State) (b : Block) (k : NoticeKind) (n : Nat) (v : List Field) (m : Nat) : (s.postAt b k n v m).standby = s.standby := rfl
@[simp] theorem State.postAt_standbyTaken (s : State) (b : Block) (k : NoticeKind) (n : Nat) (v : List Field) (m : Nat) : (s.postAt b k n v m).standbyTaken = s.standbyTaken := rfl
@[simp] theorem State.postAt_link (s : State) (b : Block) (k : NoticeKind) (n : Nat) (v : List Field) (m : Nat) : (s.postAt b k n v m).link = s.link := rfl
@[simp] theorem State.postAt_unitKey (s : State) (b : Block) (k : NoticeKind) (n : Nat) (v : List Field) (m : Nat) : (s.postAt b k n v m).unitKey = s.unitKey := rfl
@[simp] theorem State.postAt_queue (s : State) (b : Block) (k : NoticeKind) (n : Nat) (v : List Field) (m : Nat) : (s.postAt b k n v m).queue = s.queue := rfl
@[simp] theorem State.postAt_sequence (s : State) (b : Block) (k : NoticeKind) (n : Nat) (v : List Field) (m : Nat) : (s.postAt b k n v m).sequence = s.sequence := rfl
@[simp] theorem State.postAt_kindMask (s : State) (b : Block) (k : NoticeKind) (n : Nat) (v : List Field) (m : Nat) : (s.postAt b k n v m).kindMask = s.kindMask := rfl
@[simp] theorem State.postAt_suppress (s : State) (b : Block) (k : NoticeKind) (n : Nat) (v : List Field) (m : Nat) : (s.postAt b k n v m).suppress = s.suppress := rfl
@[simp] theorem State.postAt_reporting (s : State) (b : Block) (k : NoticeKind) (n : Nat) (v : List Field) (m : Nat) : (s.postAt b k n v m).reporting = s.reporting := rfl
@[simp] theorem State.postAt_outcome (s : State) (b : Block) (k : NoticeKind) (n : Nat) (v : List Field) (m : Nat) : (s.postAt b k n v m).outcome = s.outcome := rfl
@[simp] theorem State.postAt_audioReset (s : State) (b : Block) (k : NoticeKind) (n : Nat) (v : List Field) (m : Nat) : (s.postAt b k n v m).audioReset = s.audioReset := rfl
@[simp] theorem State.postAt_allocClear (s : State) (b : Block) (k : NoticeKind) (n : Nat) (v : List Field) (m : Nat) : (s.postAt b k n v m).allocClear = s.allocClear := rfl
@[simp] theorem State.postAt_flush (s : State) (b : Block) (k : NoticeKind) (n : Nat) (v : List Field) (m : Nat) : (s.postAt b k n v m).flush = s.flush := rfl
@[simp] theorem State.postAt_save (s : State) (b : Block) (k : NoticeKind) (n : Nat) (v : List Field) (m : Nat) : (s.postAt b k n v m).save = s.save := rfl
@[simp] theorem State.postAt_load (s : State) (b : Block) (k : NoticeKind) (n : Nat) (v : List Field) (m : Nat) : (s.postAt b k n v m).load = s.load := rfl
@[simp] theorem State.postAt_fallbackDue (s : State) (b : Block) (k : NoticeKind) (n : Nat) (v : List Field) (m : Nat) : (s.postAt b k n v m).fallbackDue = s.fallbackDue := rfl
@[simp] theorem State.postAt_image (s : State) (b : Block) (k : NoticeKind) (n : Nat) (v : List Field) (m : Nat) : (s.postAt b k n v m).image = s.image := rfl
@[simp] theorem State.postAt_early (s : State) (b : Block) (k : NoticeKind) (n : Nat) (v : List Field) (m : Nat) : (s.postAt b k n v m).early = s.early := rfl
@[simp] theorem State.postAt_choices (s : State) (b : Block) (k : NoticeKind) (n : Nat) (v : List Field) (m : Nat) : (s.postAt b k n v m).choices = s.choices := rfl

/-! ## `State.post` -/

@[simp] theorem State.post_pending (s : State) (b : Block) (k : NoticeKind) (n : Nat) (v : List Field) : (s.post b k n v).pending = s.pending := rfl
@[simp] theorem State.post_powered (s : State) (b : Block) (k : NoticeKind) (n : Nat) (v : List Field) : (s.post b k n v).powered = s.powered := rfl
@[simp] theorem State.post_fallbackStrap (s : State) (b : Block) (k : NoticeKind) (n : Nat) (v : List Field) : (s.post b k n v).fallbackStrap = s.fallbackStrap := rfl
@[simp] theorem State.post_contacts (s : State) (b : Block) (k : NoticeKind) (n : Nat) (v : List Field) : (s.post b k n v).contacts = s.contacts := rfl
@[simp] theorem State.post_areas (s : State) (b : Block) (k : NoticeKind) (n : Nat) (v : List Field) : (s.post b k n v).areas = s.areas := rfl
@[simp] theorem State.post_channels (s : State) (b : Block) (k : NoticeKind) (n : Nat) (v : List Field) : (s.post b k n v).channels = s.channels := rfl
@[simp] theorem State.post_slotMap (s : State) (b : Block) (k : NoticeKind) (n : Nat) (v : List Field) : (s.post b k n v).slotMap = s.slotMap := rfl
@[simp] theorem State.post_port (s : State) (b : Block) (k : NoticeKind) (n : Nat) (v : List Field) : (s.post b k n v).port = s.port := rfl
@[simp] theorem State.post_delay (s : State) (b : Block) (k : NoticeKind) (n : Nat) (v : List Field) : (s.post b k n v).delay = s.delay := rfl
@[simp] theorem State.post_lines (s : State) (b : Block) (k : NoticeKind) (n : Nat) (v : List Field) : (s.post b k n v).lines = s.lines := rfl
@[simp] theorem State.post_cells (s : State) (b : Block) (k : NoticeKind) (n : Nat) (v : List Field) : (s.post b k n v).cells = s.cells := rfl
@[simp] theorem State.post_zones (s : State) (b : Block) (k : NoticeKind) (n : Nat) (v : List Field) : (s.post b k n v).zones = s.zones := rfl
@[simp] theorem State.post_proving (s : State) (b : Block) (k : NoticeKind) (n : Nat) (v : List Field) : (s.post b k n v).proving = s.proving := rfl
@[simp] theorem State.post_overrides (s : State) (b : Block) (k : NoticeKind) (n : Nat) (v : List Field) : (s.post b k n v).overrides = s.overrides := rfl
@[simp] theorem State.post_overrideEnable (s : State) (b : Block) (k : NoticeKind) (n : Nat) (v : List Field) : (s.post b k n v).overrideEnable = s.overrideEnable := rfl
@[simp] theorem State.post_holder (s : State) (b : Block) (k : NoticeKind) (n : Nat) (v : List Field) : (s.post b k n v).holder = s.holder := rfl
@[simp] theorem State.post_standby (s : State) (b : Block) (k : NoticeKind) (n : Nat) (v : List Field) : (s.post b k n v).standby = s.standby := rfl
@[simp] theorem State.post_standbyTaken (s : State) (b : Block) (k : NoticeKind) (n : Nat) (v : List Field) : (s.post b k n v).standbyTaken = s.standbyTaken := rfl
@[simp] theorem State.post_link (s : State) (b : Block) (k : NoticeKind) (n : Nat) (v : List Field) : (s.post b k n v).link = s.link := rfl
@[simp] theorem State.post_unitKey (s : State) (b : Block) (k : NoticeKind) (n : Nat) (v : List Field) : (s.post b k n v).unitKey = s.unitKey := rfl
@[simp] theorem State.post_queue (s : State) (b : Block) (k : NoticeKind) (n : Nat) (v : List Field) : (s.post b k n v).queue = s.queue := rfl
@[simp] theorem State.post_sequence (s : State) (b : Block) (k : NoticeKind) (n : Nat) (v : List Field) : (s.post b k n v).sequence = s.sequence := rfl
@[simp] theorem State.post_kindMask (s : State) (b : Block) (k : NoticeKind) (n : Nat) (v : List Field) : (s.post b k n v).kindMask = s.kindMask := rfl
@[simp] theorem State.post_suppress (s : State) (b : Block) (k : NoticeKind) (n : Nat) (v : List Field) : (s.post b k n v).suppress = s.suppress := rfl
@[simp] theorem State.post_reporting (s : State) (b : Block) (k : NoticeKind) (n : Nat) (v : List Field) : (s.post b k n v).reporting = s.reporting := rfl
@[simp] theorem State.post_outcome (s : State) (b : Block) (k : NoticeKind) (n : Nat) (v : List Field) : (s.post b k n v).outcome = s.outcome := rfl
@[simp] theorem State.post_audioReset (s : State) (b : Block) (k : NoticeKind) (n : Nat) (v : List Field) : (s.post b k n v).audioReset = s.audioReset := rfl
@[simp] theorem State.post_allocClear (s : State) (b : Block) (k : NoticeKind) (n : Nat) (v : List Field) : (s.post b k n v).allocClear = s.allocClear := rfl
@[simp] theorem State.post_flush (s : State) (b : Block) (k : NoticeKind) (n : Nat) (v : List Field) : (s.post b k n v).flush = s.flush := rfl
@[simp] theorem State.post_save (s : State) (b : Block) (k : NoticeKind) (n : Nat) (v : List Field) : (s.post b k n v).save = s.save := rfl
@[simp] theorem State.post_load (s : State) (b : Block) (k : NoticeKind) (n : Nat) (v : List Field) : (s.post b k n v).load = s.load := rfl
@[simp] theorem State.post_fallbackDue (s : State) (b : Block) (k : NoticeKind) (n : Nat) (v : List Field) : (s.post b k n v).fallbackDue = s.fallbackDue := rfl
@[simp] theorem State.post_image (s : State) (b : Block) (k : NoticeKind) (n : Nat) (v : List Field) : (s.post b k n v).image = s.image := rfl
@[simp] theorem State.post_early (s : State) (b : Block) (k : NoticeKind) (n : Nat) (v : List Field) : (s.post b k n v).early = s.early := rfl
@[simp] theorem State.post_choices (s : State) (b : Block) (k : NoticeKind) (n : Nat) (v : List Field) : (s.post b k n v).choices = s.choices := rfl

/-! ## The fields that change -/

@[simp] theorem State.modArea_areas (s : State) (a : Nat) (f : Area → Area) :
    (s.modArea a f).areas = s.areas.modify a f := rfl
@[simp] theorem State.modZone_zones (s : State) (z : Nat) (f : Zone → Zone) :
    (s.modZone z f).zones = s.zones.modify z f := rfl
@[simp] theorem State.mapZones_zones (s : State) (f : Nat → Zone → Zone) :
    (s.mapZones f).zones = s.zones.mapIdx f := rfl
@[simp] theorem State.modChannel_channels (s : State) (c : Nat) (f : Channel → Channel) :
    (s.modChannel c f).channels = s.channels.modify c f := rfl
@[simp] theorem State.modLine_lines (s : State) (k : Nat) (f : DelayLine → DelayLine) :
    (s.modLine k f).lines = s.lines.modify k f := rfl
@[simp] theorem State.modOv_overrides (s : State) (l : OvLine) (f : Override → Override) :
    (s.modOv l f).overrides = s.overrides.set l (f (s.overrides.get l)) := rfl
@[simp] theorem State.markEarly_early (s : State) (e : Early) : (s.markEarly e).early = e :: s.early := rfl
@[simp] theorem State.zeroAllLines_cells (s : State) : s.zeroAllLines.cells = [] := rfl
@[simp] theorem State.postAt_posts (s : State) (b : Block) (k : NoticeKind) (n : Nat) (v : List Field)
    (m : Nat) : (s.postAt b k n v m).posts = s.posts ++ [⟨b, k, n, v, m⟩] := rfl
@[simp] theorem State.post_posts (s : State) (b : Block) (k : NoticeKind) (n : Nat) (v : List Field) :
    (s.post b k n v).posts = s.posts ++ [⟨b, k, n, v, s.link.counter⟩] := rfl

/-! ## One element of a table, after a change of an element -/

theorem getD_modify_same {α : Type} (l : List α) (i : Nat) (f : α → α) (d : α) (h : i < l.length) :
    (l.modify i f).getD i d = f (l.getD i d) := by
  simp [List.getD_eq_getElem?_getD, h]

theorem getD_modify_other {α : Type} (l : List α) (i j : Nat) (f : α → α) (d : α) (h : i ≠ j) :
    (l.modify i f).getD j d = l.getD j d := by
  simp [List.getD_eq_getElem?_getD, h]

theorem State.area_modArea_same (s : State) (a : Nat) (f : Area → Area) (h : a < s.areas.length) :
    (s.modArea a f).area a = f (s.area a) := getD_modify_same s.areas a f _ h

theorem State.area_modArea_other (s : State) (a b : Nat) (f : Area → Area) (h : a ≠ b) :
    (s.modArea a f).area b = s.area b := getD_modify_other s.areas a b f _ h

theorem State.zone_modZone_same (s : State) (z : Nat) (f : Zone → Zone) (h : z < s.zones.length) :
    (s.modZone z f).zone z = f (s.zone z) := getD_modify_same s.zones z f _ h

theorem State.zone_modZone_other (s : State) (z y : Nat) (f : Zone → Zone) (h : z ≠ y) :
    (s.modZone z f).zone y = s.zone y := getD_modify_other s.zones z y f _ h

theorem State.channel_modChannel_same (s : State) (c : Nat) (f : Channel → Channel)
    (h : c < s.channels.length) : (s.modChannel c f).channel c = f (s.channel c) :=
  getD_modify_same s.channels c f _ h

theorem State.channel_modChannel_other (s : State) (c d : Nat) (f : Channel → Channel) (h : c ≠ d) :
    (s.modChannel c f).channel d = s.channel d := getD_modify_other s.channels c d f _ h

theorem State.line_modLine_same (s : State) (k : Nat) (f : DelayLine → DelayLine)
    (h : k < s.lines.length) : (s.modLine k f).line k = f (s.line k) :=
  getD_modify_same s.lines k f _ h

theorem State.line_modLine_other (s : State) (k j : Nat) (f : DelayLine → DelayLine) (h : k ≠ j) :
    (s.modLine k f).line j = s.line j := getD_modify_other s.lines k j f _ h

@[simp] theorem State.area_modZone (s : State) (z a : Nat) (f : Zone → Zone) :
    (s.modZone z f).area a = s.area a := rfl
@[simp] theorem State.area_mapZones (s : State) (a : Nat) (f : Nat → Zone → Zone) :
    (s.mapZones f).area a = s.area a := rfl
@[simp] theorem State.zone_modArea (s : State) (a z : Nat) (f : Area → Area) :
    (s.modArea a f).zone z = s.zone z := rfl

@[simp] theorem PerLine.get_set_same {α : Type} (p : PerLine α) (l : OvLine) (x : α) :
    (p.set l x).get l = x := by cases l <;> rfl

theorem PerLine.get_set_other {α : Type} (p : PerLine α) (l m : OvLine) (x : α) (h : l ≠ m) :
    (p.set l x).get m = p.get m := by cases l <;> cases m <;> first | rfl | exact absurd rfl h

@[simp] theorem State.ov_modOv_same (s : State) (l : OvLine) (f : Override → Override) :
    (s.modOv l f).ov l = f (s.ov l) := PerLine.get_set_same _ _ _

theorem State.ov_modOv_other (s : State) (l m : OvLine) (f : Override → Override) (h : l ≠ m) :
    (s.modOv l f).ov m = s.ov m := PerLine.get_set_other _ _ _ _ h

end Sys2Proof.Machine
end

