-- ==== Sys2Proof/Laws/Memory.lean ====
section
/-! SUPPORT. The delay memory: reading after writing, and the canonical form (5.1). -/

namespace Sys2Proof.Machine

/-! ## The canonical form -/

theorem cellsFrom_cons (lo : Option Nat) (a : Nat) (w : MemWord) (rest : List (Nat × MemWord)) :
    cellsFrom lo ((a, w) :: rest) = true ↔
      (∀ b, lo = some b → b < a) ∧ w ≠ MemWord.zero ∧ cellsFrom (some a) rest = true := by
  cases lo <;> simp [cellsFrom, and_assoc]

/-- A list whose addresses rise above a bound has them rising above every lower one. -/
theorem cellsFrom_mono {b : Nat} {lo : Option Nat} (h : ∀ c, lo = some c → c ≤ b)
    {cells : List (Nat × MemWord)} (hc : cellsFrom (some b) cells = true) : cellsFrom lo cells = true := by
  cases cells with
  | nil => rfl
  | cons x rest =>
    obtain ⟨a, w⟩ := x
    rw [cellsFrom_cons] at hc ⊢
    obtain ⟨h1, h2, h3⟩ := hc
    exact ⟨fun c hcc => lt_of_le_of_lt (h c hcc) (h1 b rfl), h2, h3⟩

theorem cellsFrom_writeCell (cells : List (Nat × MemWord)) (lo : Option Nat) (n : Nat) (w : MemWord)
    (hn : ∀ b, lo = some b → b < n) (h : cellsFrom lo cells = true) :
    cellsFrom lo (writeCell cells n w) = true := by
  induction cells generalizing lo with
  | nil =>
    unfold writeCell
    split
    · rfl
    · rename_i hw
      rw [cellsFrom_cons]
      exact ⟨hn, hw, rfl⟩
  | cons x rest ih =>
    obtain ⟨a, v⟩ := x
    have h' := h
    rw [cellsFrom_cons] at h'
    obtain ⟨h1, h2, h3⟩ := h'
    unfold writeCell
    split
    · rename_i hlt
      split
      · exact h
      · rename_i hw
        rw [cellsFrom_cons]
        refine ⟨hn, hw, ?_⟩
        rw [cellsFrom_cons]
        exact ⟨fun b hb => by cases hb; exact hlt, h2, h3⟩
    · rename_i hnlt
      split
      · rename_i hna
        subst hna
        split
        · exact cellsFrom_mono (fun c hc => (hn c hc).le) h3
        · rename_i hw
          rw [cellsFrom_cons]
          exact ⟨hn, hw, h3⟩
      · rename_i hne
        rw [cellsFrom_cons]
        refine ⟨h1, h2, ih (some a) ?_ h3⟩
        intro b hb
        cases hb
        omega

/-- A write keeps the canonical form. -/
theorem wf_writeCell {cells : List (Nat × MemWord)} (h : Memory.wf cells = true) (n : Nat) (w : MemWord) :
    Memory.wf (writeCell cells n w) = true :=
  cellsFrom_writeCell cells none n w (by simp) h

theorem cellsFrom_filter (cells : List (Nat × MemWord)) (p : Nat × MemWord → Bool) (lo : Option Nat)
    (h : cellsFrom lo cells = true) : cellsFrom lo (cells.filter p) = true := by
  induction cells generalizing lo with
  | nil => rfl
  | cons x rest ih =>
    obtain ⟨a, w⟩ := x
    have h' := h
    rw [cellsFrom_cons] at h'
    obtain ⟨h1, h2, h3⟩ := h'
    rw [List.filter_cons]
    split
    · rw [cellsFrom_cons]
      exact ⟨h1, h2, ih (some a) h3⟩
    · exact cellsFrom_mono (fun c hc => (h1 c hc).le) (ih (some a) h3)

/-- Zeroing a run of words keeps the canonical form. -/
theorem wf_zeroCells {cells : List (Nat × MemWord)} (h : Memory.wf cells = true) (start n : Nat) :
    Memory.wf (zeroCells cells start n) = true :=
  cellsFrom_filter cells _ none h

/-- An empty list is canonical: what power-up, RESET PLANS and every clear of all lines leave. -/
theorem wf_nil : Memory.wf [] = true := rfl

/-- R83: upsets keep the canonical form. -/
theorem wf_upset (s : State) (addresses : List Nat) (h : Memory.wf s.cells = true) :
    Memory.wf (s.upset addresses).cells = true := by
  unfold State.upset
  suffices ∀ (l : List Nat) (cells : List (Nat × MemWord)), Memory.wf cells = true →
      Memory.wf (l.foldl (fun cells a => if a < memoryWords then
        writeCell cells a { readCell cells a with parityBad := true } else cells) cells) = true from
    this addresses s.cells h
  intro l
  induction l with
  | nil => exact fun _ h => h
  | cons a l ih =>
    intro cells hc
    refine ih _ ?_
    dsimp only
    split
    · exact wf_writeCell hc _ _
    · exact hc

/-- R82: a written sample keeps the canonical form. -/
theorem wf_writeLine (s : State) (k : Nat) (x : Int) (h : Memory.wf s.cells = true) :
    Memory.wf (s.writeLine k x).cells = true := by
  unfold State.writeLine
  split
  · exact h
  · exact wf_writeCell h _ _

/-- R104: zeroing one line keeps the canonical form. -/
theorem wf_zeroLine (s : State) (k : Nat) (h : Memory.wf s.cells = true) :
    Memory.wf (s.zeroLine k).cells = true := wf_zeroCells h _ _

/-- The memory of the machine right after reset is canonical. -/
theorem wf_reset : Memory.wf State.reset.cells = true := rfl

/-! ## Reading after writing -/

/-- A canonical list above a bound holds nothing at or below it. -/
theorem readCell_below {cells : List (Nat × MemWord)} {b n : Nat} (h : cellsFrom (some b) cells = true)
    (hn : n ≤ b) : readCell cells n = MemWord.zero := by
  cases cells with
  | nil => rfl
  | cons x rest =>
    obtain ⟨a, w⟩ := x
    rw [cellsFrom_cons] at h
    have hba := h.1 b rfl
    unfold readCell
    rw [if_neg (by omega), if_pos (by omega)]

theorem readCell_writeCell_aux (cells : List (Nat × MemWord)) (lo : Option Nat) (n m : Nat) (w : MemWord)
    (h : cellsFrom lo cells = true) :
    readCell (writeCell cells n w) m = if n = m then w else readCell cells m := by
  induction cells generalizing lo with
  | nil =>
    unfold writeCell
    by_cases hw : w = MemWord.zero
    · simp [hw, readCell]
    · simp [hw, readCell]
  | cons x rest ih =>
    obtain ⟨a, v⟩ := x
    rw [cellsFrom_cons] at h
    obtain ⟨-, -, h3⟩ := h
    unfold writeCell
    by_cases hna : n < a
    · rw [if_pos hna]
      by_cases hw : w = MemWord.zero
      · rw [if_pos hw]
        by_cases hnm : n = m
        · subst hnm
          simp [readCell, hw, hna, show ¬ a = n by omega]
        · simp [hnm]
      · rw [if_neg hw]
        by_cases hnm : n = m
        · simp [readCell, hnm]
        · by_cases hmn : m < n
          · simp [readCell, hnm, hmn, show m < a by omega, show ¬ a = m by omega]
          · rw [readCell]
            simp [hnm, hmn]
    · rw [if_neg hna]
      by_cases hea : n = a
      · subst hea
        rw [if_pos rfl]
        by_cases hw : w = MemWord.zero
        · rw [if_pos hw]
          by_cases hnm : n = m
          · subst hnm
            simp [hw, readCell_below h3 le_rfl]
          · by_cases hmn : m < n
            · rw [readCell_below h3 (by omega)]
              simp [readCell, hnm, hmn]
            · simp [readCell, hnm, hmn]
        · rw [if_neg hw]
          by_cases hnm : n = m
          · simp [readCell, hnm]
          · simp [readCell, hnm]
      · rw [if_neg hea]
        by_cases ham : a = m
        · subst ham
          simp [readCell, hea]
        · by_cases hma : m < a
          · simp [readCell, ham, hma, show ¬ n = m by omega]
          · simp [readCell, ham, hma, ih (some a) h3]

/-- Reading the address just written gives the word written. -/
theorem readCell_writeCell_same {cells : List (Nat × MemWord)} (h : Memory.wf cells = true) (n : Nat)
    (w : MemWord) : readCell (writeCell cells n w) n = w := by
  rw [readCell_writeCell_aux cells none n n w h, if_pos rfl]

/-- Writing one address leaves every other address as it was. -/
theorem readCell_writeCell_other {cells : List (Nat × MemWord)} (h : Memory.wf cells = true) {n m : Nat}
    (hnm : n ≠ m) (w : MemWord) : readCell (writeCell cells n w) m = readCell cells m := by
  rw [readCell_writeCell_aux cells none n m w h, if_neg hnm]

theorem readCell_filter_aux (cells : List (Nat × MemWord)) (p : Nat → Bool) (lo : Option Nat) (m : Nat)
    (h : cellsFrom lo cells = true) :
    readCell (cells.filter fun c => p c.1) m = if p m then readCell cells m else MemWord.zero := by
  induction cells generalizing lo with
  | nil => simp [readCell]
  | cons x rest ih =>
    obtain ⟨a, w⟩ := x
    rw [cellsFrom_cons] at h
    obtain ⟨-, -, h3⟩ := h
    have ih := ih (some a) h3
    rw [List.filter_cons]
    by_cases hpa : p a = true
    · simp only [hpa, if_true, readCell]
      by_cases ham : a = m
      · subst ham
        simp [hpa]
      · simp only [if_neg ham, ih]
        by_cases hma : m < a
        · simp [hma]
        · simp [hma]
    · simp only [hpa, if_false, ih, readCell, Bool.false_eq_true]
      by_cases ham : a = m
      · subst ham
        simp [hpa]
      · by_cases hma : m < a
        · simp [hma, ham, readCell_below h3 hma.le]
        · simp [hma, ham]

/-- R104: what zeroing a run of words leaves at an address. -/
theorem readCell_zeroCells {cells : List (Nat × MemWord)} (h : Memory.wf cells = true) (start n m : Nat) :
    readCell (zeroCells cells start n) m =
      if start ≤ m ∧ m < start + n then MemWord.zero else readCell cells m := by
  unfold zeroCells
  rw [readCell_filter_aux cells (fun a => a < start || start + n ≤ a) none m h]
  by_cases h1 : start ≤ m <;> by_cases h2 : m < start + n <;>
    simp [h1, h2]

end Sys2Proof.Machine
end

