-- ==== Sys2Proof/Laws/Notices.lean ====
section
/-! SUPPORT. The posting of notices (R184) and the outgoing queue (R186): what one notice can do, what
sending the notices of a command leaves, and what a reply adds (R179). -/

namespace Sys2Proof.Machine

/-- Sending no notices changes nothing. -/
theorem State.flushPosts_nil (s : State) (h : s.posts = []) : s.flushPosts = s := by
  obtain ⟨⟩ := s
  simp_all [State.flushPosts, mergePosts, blocksWaiting]

/-- R184: all that sending one notice can do: nothing when it is masked or suppressed, an entry when the
queue has room, and otherwise a count and a flag. -/
theorem State.sendPost_cases (s : State) (p : Post) :
    s.sendPost p = s ∨
    (s.queue.length < 8 ∧ ∃ e : Entry,
      s.sendPost p = { s with sequence := s.sequence + 1, queue := s.queue ++ [e] }) ∨
    (8 ≤ s.queue.length ∧ s.sendPost p =
      { s with sequence := s.sequence + 1, status := { s.status with
          noticesDropped := sat16 (s.status.noticesDropped + 1), outQueueFull := true } }) := by
  unfold State.sendPost queueCapacity
  split
  · exact .inl rfl
  · dsimp only
    split
    · exact .inr (.inl ⟨‹_›, _, rfl⟩)
    · exact .inr (.inr ⟨not_lt.mp ‹_›, rfl⟩)

/-- R186: sending a notice keeps the queue within eight entries. -/
theorem State.sendPost_queue_le (s : State) (p : Post) (h : s.queue.length ≤ 8) :
    (s.sendPost p).queue.length ≤ 8 := by
  obtain h1 | ⟨h1, e, h2⟩ | ⟨h1, h2⟩ := s.sendPost_cases p
  · rw [h1]; exact h
  · rw [h2]; simp; omega
  · rw [h2]; exact h

/-- Sending notices touches the queue, the sequence and the status record alone. -/
theorem State.sendPosts_frame (ps : List Post) (s : State) :
    ps.foldl State.sendPost s =
      { s with
        queue := (ps.foldl State.sendPost s).queue
        sequence := (ps.foldl State.sendPost s).sequence
        status := (ps.foldl State.sendPost s).status } := by
  induction ps generalizing s with
  | nil => rfl
  | cons p ps ih =>
    rw [List.foldl_cons, ih (s.sendPost p)]
    obtain h | ⟨-, e, h⟩ | ⟨-, h⟩ := s.sendPost_cases p <;> rw [h]

/-- R184: what sending a command's notices can change. -/
theorem State.flushPosts_frame (s : State) :
    s.flushPosts =
      { s with
        posts := []
        queue := s.flushPosts.queue
        sequence := s.flushPosts.sequence
        status := s.flushPosts.status
        choices := s.flushPosts.choices } := by
  unfold State.flushPosts
  dsimp only
  rw [State.sendPosts_frame]

/-- R186: sending a command's notices keeps the queue within eight entries and leaves none waiting. -/
theorem State.flushPosts_bounded (s : State) (h : s.queue.length ≤ 8) : s.flushPosts.queueBounded := by
  refine ⟨?_, by rw [State.flushPosts_frame]⟩
  unfold State.flushPosts
  dsimp only
  generalize mergePosts _ _ _ = ps
  suffices ∀ (ps : List Post) (t : State), t.queue.length ≤ 8 →
      (ps.foldl State.sendPost t).queue.length ≤ 8 from this ps _ h
  intro ps
  induction ps with
  | nil => exact fun _ h => h
  | cons p ps ih => exact fun t ht => ih _ (t.sendPost_queue_le p ht)

/-- R179: a reply adds one entry for a sole request and nothing otherwise. -/
theorem State.reply_cases (s : State) (kind : Nat) (p : Packet) (code : ResultCode) (body : List Field) :
    (p.manner = .sole ∧ ∃ e : Entry, s.reply kind p code body = { s with queue := s.queue ++ [e] }) ∨
    (p.manner ≠ .sole ∧ s.reply kind p code body = s) := by
  unfold State.reply
  split
  · exact .inl ⟨‹_›, _, rfl⟩
  · exact .inr ⟨by simp_all, rfl⟩
  · exact .inr ⟨by simp_all, rfl⟩

end Sys2Proof.Machine
end

