-- ==== Sys2Proof/Laws/Sound.lean ====
section
/-! SUPPORT. The laws of a sound state as checks that can be evaluated: a concrete state that passes a check
keeps the law. -/

namespace Sys2Proof.Machine

/-- R27: the slot map, as a check. -/
def SlotMap.checks (m : SlotMap) : Bool :=
  let listed (o : Option Nat) : Bool := o.all fun n => decide (n < 64)
  m.positions.all listed && m.zones.all listed && listed m.announce && listed m.sense &&
    (List.range 16).all fun z => (List.range z).all fun y =>
      m.zones.getD y none == none || m.zones.getD y none != m.zones.getD z none

theorem slotListed_of_all {o : Option Nat} (h : (o.all fun n => decide (n < 64)) = true) : slotListed o := by
  rintro n rfl
  simpa using h

theorem SlotMap.lawful_of_checks (m : SlotMap) (h : m.checks = true) : m.lawful := by
  simp only [SlotMap.checks, Bool.and_eq_true, List.all_eq_true, Bool.or_eq_true, bne_iff_ne] at h
  obtain ⟨⟨⟨⟨hp, hz⟩, ha⟩, hs⟩, hd⟩ := h
  refine ⟨fun o ho => slotListed_of_all (hp o ho), fun o ho => slotListed_of_all (hz o ho),
    slotListed_of_all ha, slotListed_of_all hs, fun y z hy hz' hne => ?_⟩
  exact (hd z (List.mem_range.2 hz') y (List.mem_range.2 hy)).resolve_left (by simpa using hne)

/-- The laws of single tables, as a check. -/
def State.tableChecks (s : State) : Bool :=
  (areaIndexes.all fun a => planInRange a (s.area a).live && planInRange a (s.area a).staged &&
    decide ((s.area a).restCount ≤ 32) && (decide ((s.area a).restCount = 0) || s.inService a)) &&
  s.slotMap.checks &&
  decide (s.delay.dirty.Pairwise (· < ·)) && (s.delay.dirty.all fun i => decide (i < 384)) &&
  decide (s.delay.pointer < 384) && decide ((s.lines.map DelayLine.length).sum ≤ 2048) &&
  ((List.range 7).all fun k => lengthInRange (s.line k).length &&
    (decide ((s.line k).length = 0) || decide ((s.line k).writeAt < s.lineWords k))) &&
  (s.save.isNone || s.load.isNone) &&
  (s.load.all fun l => !l.second || (imageFailure s.image).isNone)

theorem State.lawful_of_checks (s : State) (h : s.tableChecks = true) : s.lawful := by
  simp only [State.tableChecks, areaIndexes, Bool.and_eq_true, Bool.or_eq_true, decide_eq_true_eq,
    List.all_eq_true, List.mem_range, State.inService, beq_iff_eq] at h
  obtain ⟨⟨⟨⟨⟨⟨⟨⟨ha, h3⟩, h4⟩, h5⟩, h6⟩, h7⟩, h8⟩, h9⟩, h10⟩ := h
  refine ⟨fun a hi => ⟨(ha a hi).1.1.1, (ha a hi).1.1.2⟩, fun a hi => ⟨(ha a hi).1.2, fun h => ?_⟩,
    s.slotMap.lawful_of_checks h3, ⟨h4, h5, h6⟩, h7, fun k hk => ⟨(h8 k hk).1, fun h => ?_⟩,
    by simpa using h9, fun l hl h2 => ?_⟩
  · exact (ha a hi).2.resolve_left (by omega)
  · exact (h8 k hk).2.resolve_left (by omega)
  · simpa [hl, h2] using h10

/-- R14, R20: plans apart, as a check on the lists. -/
def State.apartChecks (s : State) : Bool :=
  areaIndexes.all fun a =>
    (areaIndexes.all fun b => decide (b ≤ a) ||
      (((s.area a).live.members.all fun m => !(s.area b).live.hasMember m.position) &&
        (s.area a).live.zones.all fun e => !(s.area b).live.hasZone e.zone)) &&
    ((s.area a).live.join.all fun b => (s.area b).live.join == none) &&
    ((s.area a).stagedState != .clean || (s.area a).staged == (s.area a).live)

theorem State.plansApart_of_checks (s : State) (h : s.apartChecks = true) : s.plansApart := by
  simp only [State.apartChecks, areaIndexes, Bool.and_eq_true, Bool.or_eq_true, decide_eq_true_eq,
    List.all_eq_true, List.mem_range, Bool.not_eq_true', bne_iff_ne, beq_iff_eq] at h
  refine ⟨fun a b q hab hb hq => ?_, fun a b z hab hb hz => ?_, fun a b ha hj => ?_, fun a ha hc => ?_⟩
  · obtain ⟨m, hm, e⟩ := List.any_eq_true.1 hq
    rw [← beq_iff_eq.1 e]
    exact (((h a (by omega)).1.1 b hb).resolve_left (by omega)).1 m hm
  · obtain ⟨m, hm, e⟩ := List.any_eq_true.1 hz
    rw [← beq_iff_eq.1 e]
    exact (((h a (by omega)).1.1 b hb).resolve_left (by omega)).2 m hm
  · have := (h a ha).1.2
    simpa [hj] using this
  · exact (h a ha).2.resolve_left (by simp [hc])

/-- A zone is lawful, as a check. -/
def Zone.checks (r : Zone) : Bool :=
  match r.phase with
  | .steady | .fadeIn => r.next == none
  | .settle => r.current == .quiet && (r.settleKind != .enteringOff || r.next == some .off)
  | .fadeOut => true

theorem Zone.lawful_of_checks (r : Zone) (h : r.checks = true) : r.lawful := by
  unfold Zone.checks at h
  unfold Zone.lawful
  split at h <;> simp_all
  intro hk
  rcases h.2 with h2 | h2 <;> simp_all

/-- R120, R139: the zones in ANNOUNCE, as a check. -/
def State.announceChecks (s : State) : Bool :=
  (List.range 16).all fun z =>
    let r := s.zone z
    r.checks &&
    (r.current != .announce || r.phase == .fadeOut || s.holder.any fun l => r.entered == some l &&
      (s.ov l).copy.any fun p => p.targets.getLsbD z) &&
    (s.audioReset.isNone || (r.current != .announce && r.next == none))

theorem State.announceLaw_of_checks (s : State) (h : s.announceChecks = true) : s.announceLaw := by
  intro z hz
  have h := List.all_eq_true.1 h z (List.mem_range.2 hz)
  simp only [Bool.and_eq_true] at h
  obtain ⟨⟨h1, h2⟩, h3⟩ := h
  refine ⟨(s.zone z).lawful_of_checks h1, fun hc hp => ?_, fun hr => ?_⟩
  · simp only [hc, bne_self_eq_false, Bool.false_or, Bool.or_eq_true, beq_iff_eq, hp, false_or,
      Option.any_eq_true, Bool.and_eq_true] at h2
    obtain ⟨l, hl, he, p, hp', ht⟩ := h2
    exact ⟨l, p, hl, he, hp', ht⟩
  · cases ha : s.audioReset with
    | none => exact absurd ha hr
    | some t => simpa [ha] using h3

/-- R168, R172, R173: the lane, as a check. -/
def Link.laneChecks (l : Link) : Bool :=
  let forwards : Bool := l.reception.any fun p => p.decision == .forward
  l.forward.dropLast.all Run.closed &&
  (l.forward.getLast?.all fun r => !r.closed == forwards) &&
  (!forwards || !l.forward.isEmpty) &&
  ((if l.sending = .forwarding then l.forward.tail else l.forward).all fun r => !r.bytes.isEmpty) &&
  (l.sending != .forwarding || l.forward.head?.any fun r => !r.bytes.isEmpty || !r.closed) &&
  (l.reception.all fun p => !p.bytes.isEmpty && ((p.decision == .pending) == decide (p.bytes.length < 4))) &&
  (l.sending != .sendingLocal []) &&
  (l.chain != .lost || (l.forward.isEmpty && l.reception.isNone && l.sending != .forwarding)) &&
  decide (l.backlog ≤ 32)

theorem Link.laneLaw_of_checks (l : Link) (h : l.laneChecks = true) : l.laneLaw := by
  simp only [Link.laneChecks, Bool.and_eq_true, decide_eq_true_eq] at h
  obtain ⟨⟨⟨⟨⟨⟨⟨⟨h1, h2⟩, h3⟩, h4⟩, h5⟩, h6⟩, h7⟩, h8⟩, h9⟩ := h
  have hf : ∀ P : Reception → Prop, (∃ p, l.reception = some p ∧ p.decision = .forward) ↔
      (l.reception.any fun p => p.decision == .forward) = true := by
    intro _
    cases l.reception <;> simp
  refine ⟨List.all_eq_true.1 h1, fun r hr => ?_, fun p hp hd => ?_, fun r hr => ?_, fun hs => ?_,
    fun p hp => ?_, fun rest hr => ?_, fun hl => ?_, h9⟩
  · rw [hf fun _ => True]
    rw [hr] at h2
    simp only [Option.all_some] at h2
    rw [← h2]
    cases r.closed <;> simp
  · simpa [hp, hd] using h3
  · simpa using List.all_eq_true.1 h4 r hr
  · simp only [hs, bne_self_eq_false, Bool.false_or] at h5
    cases hl : l.forward with
    | nil => simp [hl] at h5
    | cons r rs =>
      refine ⟨r, rs, rfl, fun hb => ?_⟩
      simpa [hl, hb] using h5
  · simp only [hp, Option.all_some, Bool.and_eq_true, beq_iff_eq] at h6
    refine ⟨by simpa using h6.1, ?_⟩
    have h6 := h6.2
    rw [Bool.eq_iff_iff] at h6
    simpa using h6
  · rintro rfl
    simp [hr] at h7
  · simpa [hl, and_assoc] using h8

end Sys2Proof.Machine
end

