-- ==== Sys2Proof/Laws/Taking.lean ====
section
/-! SUPPORT. What a command meets: nothing outstanding in a quiet state, and all that the taking of a
request can come to (R177). -/

namespace Sys2Proof.Machine

/-- In a quiet state no event of the last frame is left to take. -/
theorem State.settleEvents_quiet (s : State) (h : s.quiet) : s.settleEvents = s := by
  obtain ⟨-, -, h1, h2, h3, h4, h5, h6⟩ := h
  have e3 : s.portAbsent = s := by
    obtain ⟨⟩ := s
    simp_all [State.portAbsent, Port.silence]
  simp [State.settleEvents, State.chainLost, State.chainRegained, State.provingLock, State.provingLoss,
    State.provingWindowEnd, h1, h2, h4, h5, h6, e3]

/-- A quiet state is settled. -/
theorem State.settle_quiet (s : State) (h : s.quiet) : s.settle = s := by
  rw [State.settle, s.settleEvents_quiet h, s.flushPosts_nil h.2.1]

/-- A command at a quiet state is its act, with its notices sent. -/
theorem State.powerOn_quiet (s : State) (h : s.quiet) (act : State → State) :
    s.powerOn act = (act s).flushPosts := by
  simp [State.powerOn, h.1, s.settle_quiet h]

/-- A boundary event at a quiet state is its act where it is due. -/
theorem State.boundaryEvent_quiet (s : State) (h : s.quiet) (due : State → Bool) (act : State → State)
    (hd : due s = true) : s.boundaryEvent due act = (act s).flushPosts := by
  simp [State.boundaryEvent, h.1, s.settle_quiet h, hd]

/-- R177: all that the taking of a request of a known kind can come to. -/
theorem State.request_cases (s : State) (kind : Nat) (p : Packet) (lengthOk : List Byte → Bool)
    (key : State → Packet → Key) (monitor : Bool) (act : State → Packet → Verdict) :
    (s.mustDrop p = true ∧ s.request kind p lengthOk key monitor act = s.dropRequest) ∨
    (s.mustDrop p = false ∧
      ((lengthOk p.body = false ∧
          s.request kind p lengthOk key monitor act = s.reply kind p .malformed []) ∨
       (lengthOk p.body = true ∧ s.engineBusy = true ∧ monitor = false ∧
          s.request kind p lengthOk key monitor act = s.reply kind p .busy []) ∨
       (lengthOk p.body = true ∧ (s.engineBusy = false ∨ monitor = true) ∧
          keyAccepts (key s p) p.key = false ∧
          s.request kind p lengthOk key monitor act = s.keyRefused kind p) ∨
       (lengthOk p.body = true ∧ (s.engineBusy = false ∨ monitor = true) ∧
          keyAccepts (key s p) p.key = true ∧
          s.request kind p lengthOk key monitor act =
            (act s p).1.reply kind p (act s p).2.1 (act s p).2.2))) := by
  unfold State.request
  cases s.mustDrop p <;> cases lengthOk p.body <;> cases s.engineBusy <;> cases monitor <;>
    cases keyAccepts (key s p) p.key <;> simp

/-- R177 step 7: an admitted request of the right length is what its owning block makes of it. -/
theorem State.request_admitted (s : State) (kind : Nat) (p : Packet) (lengthOk : List Byte → Bool)
    (key : State → Packet → Key) (monitor : Bool) (act : State → Packet → Verdict)
    (h : s.admits p (key s p)) (hl : lengthOk p.body = true) :
    s.request kind p lengthOk key monitor act = (act s p).1.reply kind p (act s p).2.1 (act s p).2.2 := by
  obtain ⟨⟨hd, hb⟩, hk⟩ := h
  have hk' : keyAccepts (key s p) p.key = true := by
    unfold keyAccepts
    rcases hk with hk | hk <;> simp [hk]
  simp [State.request, hd, hl, hb, hk']

/-- R68, R138: a read is a request without key, and the free choice is met only where the power-up load alone
keeps the engine busy. -/
theorem State.requestRead_cases (s : State) (kind : Nat) (p : Packet) (lengthOk : List Byte → Bool)
    (act : State → Packet → Verdict) :
    (s.loadAloneBusy = false ∧
      s.requestRead kind p lengthOk act = s.request kind p lengthOk State.noKey false act) ∨
    (s.loadAloneBusy = true ∧ ∃ carried : Bool, s.requestRead kind p lengthOk act =
      State.request { s with choices := s.choices + 1 } kind p lengthOk State.noKey carried act) := by
  unfold State.requestRead
  cases s.loadAloneBusy
  · exact .inl ⟨rfl, by simp⟩
  · exact .inr ⟨rfl, Config.readsDuringPowerUp s.choices, by simp⟩

end Sys2Proof.Machine
end

