-- ==== Sys2Proof/Tests/Slice0.lean ====
section
/-! SUPPORT. The model's own tests: an ill-formed term for each check of WellFormed, the tables and worked
examples of the spec on single operations and single commands, and for each statement with hypotheses a
concrete state and operands that meet them, clause by clause, at the ends of their ranges. -/

namespace Sys2Proof.Tests

open Sys2Proof Sys2Proof.Machine

/-! ## Small states and commands -/

/-- A powered part with no load in flight. -/
def up : State := { State.reset with load := none }

/-- The same with its last frame of a block sent. -/
def atB : State := { up with link := { up.link with inBlock := 48 } }

/-- A packet of one sender with a body. -/
def req (body : List Byte) : Packet := ⟨.sole, 5#8, 1#8, 0#16, body⟩

/-- A broadcast packet. -/
def broadcast (body : List Byte) : Packet := ⟨.broadcast, 5#8, 1#8, 0#16, body⟩

/-- The contact inputs with none active. -/
def released : Contacts := ⟨false, false, false, false, false⟩

/-- A Span frame of sixty-four valid slots that all hold one sample, with a lane. -/
def frameWith (x : RawSample) (control : Byte) (bytes : List Byte) : ChainFrame :=
  ⟨true, List.replicate 64 ⟨x, 0x80#8⟩, control, bytes,
    crc8 (checkedBytes (List.replicate 64 ⟨x, 0x80#8⟩) control bytes)⟩

/-- The same with an empty lane. -/
def frameOf (x : RawSample) : ChainFrame := frameWith x 0 [0, 0, 0, 0]

/-- Such a frame is good (R164). -/
theorem frameWith_good (x : RawSample) (control : Byte) (bytes : List Byte) :
    (frameWith x control bytes).good = true := by
  simp [ChainFrame.good, frameWith]

/-- A state with chain-in TRACKING. -/
def tracking (s : State) : State :=
  { s with link := { s.link with chain := .tracking, badCount := 0, history := List.replicate 64 true } }

/-- A state with one area in service. -/
def serving (s : State) (a : Nat) : State := s.modArea a fun r => { r with service := .inService }

/-- A state with a take held by an area. -/
def holding (s : State) (a : Nat) : State := s.modArea a fun r => { r with stagedState := .held }

/-- A state whose area 1 has P3 and Z4 in its live plan. -/
def rival (s : State) : State :=
  s.modArea 1 fun r => { r with live := { r.live with members := [⟨3, .speech, 0⟩], zones := [⟨4, 0⟩] } }

/-- A state whose area 0 has P3 staged. -/
def staging (s : State) : State :=
  s.modArea 0 fun r => { r with staged := { r.staged with members := [⟨3, .speech, 0⟩] } }

/-- A state with one transition in flight on the record of area 0. -/
def inFlight (s : State) (kind : TransitionKind) (progress : Nat) : State :=
  s.modArea 0 fun r => { r with transition := some ⟨kind, 1536, progress, [⟨2, some 5, some 9⟩], false, false⟩ }

/-- A state with an override that holds the bus. -/
def heldBy (s : State) (l : OvLine) (state : OverrideState) (c : Countdown) : State :=
  { s with holder := some l }.modOv l fun r =>
    { r with state := state, copy := some r.programme, countdown := c }

/-- A record of position 3. -/
def record3 : MemberRec := { MemberRec.fresh ⟨3, .speech, 0⟩ with f := -480 }

/-- A running area 0 whose mixer keeps one record, with P3 PRESENT, at a boundary. -/
def mixing3 (r : MemberRec) (peak : Nat) : State :=
  let s := (serving atB 0).modArea 0 fun a => { a with records := [r] }
  s.modChannel 3 fun c =>
    { c with presence := .present, history := List.replicate 32 true, valid := 48, peak := peak }

/-! ## Well-formedness: each check refuses a term -/

theorem wf_frame_slots : Instr.wf (.frame ⟨some ⟨true, [], 0, [0, 0, 0, 0], 0⟩, released, []⟩) = false := by
  decide
theorem wf_frame_lane : Instr.wf (.localFrame
    ⟨some ⟨true, List.replicate 64 ⟨0, 0⟩, 0, [0], 0⟩, released, []⟩) = false := by decide
theorem wf_frame_upset : Instr.wf (.frame ⟨none, released, [98304]⟩) = false := by decide
theorem wf_area : Instr.wf (.leadChange 6) = false ∧ Instr.wf (.floorRise 6 0) = false := by decide
theorem wf_position : Instr.wf (.floorRise 0 24) = false ∧ Instr.wf (.gateHoldExpiry 0 24) = false := by
  decide
theorem wf_zone : Instr.wf (.fadeOutEnd 16) = false ∧ Instr.wf (.settleEnd 16) = false := by decide
theorem wf_body : Instr.wf (.take (req (List.replicate 117 0))) = false := by decide
theorem wf_selector : Instr.wf (.resetAudio (req [2])) = false ∧ Instr.wf (.resetPlans (req [1])) = false ∧
    Instr.wf (.resetReporting (req [3])) = false := by decide
theorem wf_unknown_kind : Instr.wf (.unknownKind 1 (req [])) = false ∧
    Instr.wf (.unknownKind 64 (req [])) = false := by decide
theorem wf_other_kind : Instr.wf (.nonRequestPacket 63 (req [])) = false := by decide
theorem wf_accepts : Instr.wf (.frame ⟨some (frameOf 0), released, [98303]⟩) = true ∧
    Instr.wf (.resetReporting (req [7])) = true ∧ Instr.wf (.unknownKind 17 (req [])) = true := by decide

/-! ## The spec's tables and examples on single operations -/

/-- The example values of R3, R32 and R50. -/
theorem test_levels_and_gains : gainMul 0 = 1048576 ∧ gainMul (-480) = 0 ∧
    [8388607, 4194304, 838861, 8389, 84, 1, 0].map blockLevel = [0, -25, -80, -240, -400, -480, -480] := by
  decide

/-- The tables of R70 and R71. -/
theorem test_delays : [(100, 150), (4250, 120), (4250, 250), (20000, 150), (20000, 400), (20000, -100)].map
    (fun x : Nat × Int => geometricDelay (some x.1) (speedOfSound x.2)) =
      [141, 6025, 5888, 28203, 27001, 29517] := by decide

/-- The table of R90: weights at the first two samples, halfway and at the last. -/
theorem test_crossfade_weights : [768, 3072, 12288].map (fun m =>
    [rampWeight 0 m, rampWeight 1 m, rampWeight (m / 2 - 1) m, rampWeight (m - 1) m]) =
      [[5, 10, 2048, 4096], [1, 2, 2048, 4096], [0, 0, 2048, 4096]] := by decide

/-- The worked example of 7.5: the first sample of a fade-in at the factory proving level. -/
theorem test_first_proving_sample :
    (outputStages (-(({ Proving.reset with level := -120 } : Proving).magnitude)) (fadeWeight 1 1536)).1 =
      -130 := by decide

/-- The table of R69: seven temperatures through an evening, with T_used and the entries marked. -/
theorem test_temperatures :
    (([122, 124, 125, 128, 121, 119, 400] : List Int).foldl (fun (acc : DelayComputer × List (Int × Nat)) t =>
      let d := DelayComputer.setTemperature { acc.1 with dirty := [] } t
      (d, acc.2 ++ [(d.used, d.dirty.length)])) ({ DelayComputer.reset with requested := 120, used := 120 }, [])).2 =
      [(120, 0), (120, 0), (125, 384), (125, 0), (125, 0), (119, 384), (400, 384)] := by decide +kernel

/-- The table of R171. -/
theorem test_folded_index :
    [1#16, 64#16, 4096#16, 4660#16, 65535#16].map foldedIndex = [1, 1, 1, 61, 15] := by decide

/-- R13: ADD MEMBER P3 and then REMOVE MEMBER P3 leaves no entry, and lists stay in order. -/
theorem test_member_items :
    (applyItems Plan.factory [[1, 3, 0, 0], [2, 3, 0, 0]]).1.members = [] ∧
    ((applyItems Plan.factory [[1, 5, 0, 0], [1, 3, 1, 0x7F]]).1.members.map Member.position = [3, 5]) ∧
    (applyItems Plan.factory [[1, 3, 1, 0x7F]]).2 = true := by decide

/-! ## Commands on small states -/

/-- R17, R179: the reply of a DISCARD goes to the source, with its tag and its kind plus 64. -/
theorem test_discard_reply : (match exec (.discard (req [0])) up with
    | .next t => t.queue
    | _ => []) = [⟨5#8, 1#8, 72#8, [f1 0]⟩] := by decide

/-- R194: a body of the wrong length is MALFORMED; a broadcast is not answered (R177). -/
theorem test_malformed : (match exec (.take (req [])) up with
    | .next t => t.queue.map Entry.body
    | _ => []) = [[f1 11]] ∧ (match exec (.take (broadcast [])) up with
    | .next t => t.queue
    | _ => []) = [] := by decide

/-- R184, R187: a tap that a reset of AUDIO and REPORTING clamps is flagged as it is reported. -/
theorem test_reset_clamps :
    let s := (serving up 0).modArea 0 fun r =>
      { r with live := { r.live with zones := [⟨3, 0⟩], precedence := 480 } }
    let s := { s with lines := s.lines.map fun (l : DelayLine) => { l with length := 5 } }
    let t := s.resets 5#8
    t.posts.map Post.kind = [.tapClamped] ∧ t.status.tapClamped = 0x0008#16 := by decide +kernel

/-- R144: an enable that an image load sets at a boundary lets a LEVEL line request from the next. -/
theorem test_enable_from_next :
    let s := atB.modOv .o2 fun r =>
      { r with programme := { r.programme with trigger := .level, targets := 1#16 }, sample := true }
    let s := { s with contacts := ⟨false, false, true, false, false⟩ }
    let s := { s.markSettings with overrideEnable := true }
    let t := s.presenceAndControl
    t.holder = none ∧ t.overrideEnable = true ∧
      (State.presenceAndControl { t with early := [] }).holder = some .o2 := by decide +kernel

/-- R28: the reply of a conflict names the lowest slot held twice and the lowest zone that set it. -/
theorem test_slot_conflict : (match exec (.setSlotMap (req [26, 33, 24, 33])) up with
    | .next t => t.queue.map Entry.body
    | _ => []) = [[f1 7, f1 9, f1 33, f1 0]] := by decide

/-- R28: two zones exchange their slots in one request. -/
theorem test_slot_exchange : (match exec (.setSlotMap (req [24, 33, 25, 32])) up with
    | .next t => t.slotMap.zones.take 2
    | _ => []) = [some 33, some 32] := by decide

/-- R193: the published check values of the two generators over the bytes 31H to 39H. -/
theorem test_checks :
    crc8 ((List.range 9).map fun i => BitVec.ofNat 8 (0x31 + i)) = 0xF4#8 ∧
    crc16 ((List.range 9).map fun i => BitVec.ofNat 8 (0x31 + i)) = 0x29B1 := by decide +kernel

/-! ## States and operands that meet the hypotheses of each statement -/

theorem witness_StepRunsTheFrontCommand :
    ({ up with pending := [.chainLost, .lossOfPower] } : State).pending = .chainLost :: [.lossOfPower] ∧
    up.pending = [] := ⟨rfl, rfl⟩

theorem witness_DelayMemoryStaysCanonical :
    let s := { up with cells := [(4, ⟨7, false⟩), (9, ⟨0, true⟩)] }
    Memory.wf s.cells = true ∧ step s = .next s := ⟨by decide +kernel, rfl⟩

theorem witness_OutgoingQueueStaysBounded :
    let s := { up with queue := List.replicate 8 ⟨63, 0, 0, [⟨116, 0⟩]⟩, pending := [.standby (req [])] }
    (s.queueBounded ∧ s.tablesWhole ∧ s.entriesFit ∧ ∃ t, step s = .next t) ∧ s.lawful :=
  ⟨⟨by decide +kernel, by decide +kernel, by decide +kernel, _, rfl⟩, State.lawful_of_checks _ (by decide +kernel)⟩

/-- EVAC holds the bus with its latch set, over zone 15 in ANNOUNCE. -/
theorem witness_OneOverrideHoldsTheBus :
    let s := (((heldBy up .evac .active .none).modOv .evac fun r => { r with latch := true }).modZone 15 fun r =>
      { r with current := .announce, phase := .fadeIn, entered := some .evac })
    let s := { s with pending := [.standby (req [])] }
    s.busOwned ∧ (s.evacHolds ∧ (s.ov .evac).latch = true) ∧ s.announceLaw ∧
    (∀ z, s.pending.head? ≠ some (.fadeOutEnd z) ∧ s.pending.head? ≠ some (.settleEnd z)) ∧
    ∃ t, step s = .next t :=
  ⟨by intro l; cases l <;> decide, by decide, State.announceLaw_of_checks _ (by decide +kernel),
    fun z => ⟨by simp, by simp⟩, _, rfl⟩

theorem witness_TablesKeepTheirSizes :
    let s := { up with pending := [.blockBoundary] }
    s.tablesWhole ∧ s.lawful ∧ ∃ t, step s = .next t :=
  ⟨by decide +kernel, State.lawful_of_checks _ (by decide +kernel), _, rfl⟩

/-- Two areas with plans of their own, one joined to the other; with the fallback due and without. -/
theorem witness_LivePlansStayApart :
    let s := rival (up.modArea 2 fun r => { r with
      stagedState := .edited, live := { r.live with members := [⟨23, .speech, 0⟩], join := some 1 } })
    let s := s.modArea 1 fun r => { r with stagedState := .edited }
    let due := { up with fallbackDue := true, pending := [.blockBoundary] }
    (s.tablesWhole ∧ s.lawful ∧ s.plansApart ∧ s.fallbackAhead ∧ s.fallbackDue = false ∧ ∃ t, step s = .next t) ∧
    due.tablesWhole ∧ due.lawful ∧ due.plansApart ∧ due.fallbackAhead ∧ due.validate 0 Plan.fallback = none ∧
    ∃ t, step due = .next t :=
  ⟨⟨by decide +kernel, State.lawful_of_checks _ (by decide +kernel),
      State.plansApart_of_checks _ (by decide +kernel), ⟨by decide, by decide, by decide⟩, rfl, _, rfl⟩,
    by decide +kernel, State.lawful_of_checks _ (by decide +kernel),
    State.plansApart_of_checks _ (by decide +kernel), ⟨by decide, by decide, by decide⟩, by decide +kernel, _, rfl⟩

/-- A backlog of 32 frames: the longest packet held in the buffer. -/
theorem witness_ForwardBufferStaysBounded :
    let s := tracking { up with link := { up.link with forward := [⟨List.replicate 127 0, true⟩] } }
    s.entriesFit ∧ s.link.laneLaw ∧ s.link.backlog = 32 ∧ ∃ t, step s = .next t :=
  ⟨by decide, Link.laneLaw_of_checks _ (by decide +kernel), by decide +kernel, _, rfl⟩

theorem witness_GainLawAndLevelAreTheRealOnes :
    (-480 < (-479 : Int) ∧ (-479 : Int) ≤ 96) ∧ (-480 < (96 : Int) ∧ (96 : Int) ≤ 96) ∧
    (0 < 1 ∧ 1 ≤ 8388608) ∧ 0 < 8388608 ∧ 8388608 ≤ 8388608 := by decide

theorem witness_OpenMicrophonesShareTheGain :
    ([] : List MemberRec).length ≤ 24 ∧ (List.replicate 24 record3).length ≤ 24 ∧
    (1 ≤ 1 ∧ 1 ≤ 24) ∧ 1 ≤ 24 ∧ 24 ≤ 24 := by decide

theorem witness_DelayFromDistanceAndTemperature :
    (-100 ≤ (-100 : Int) ∧ (-100 : Int) ≤ 400) ∧ (-100 ≤ (400 : Int) ∧ (400 : Int) ≤ 400) ∧
    (0 < (32524 : Int) ∧ 20000 ≤ 20000 ∧ 32524 ≤ (32524 : Int)) ∧
    383 < DelayComputer.reset.delays.length := by decide +kernel

theorem witness_WeightsMoveFromOldToNew :
    (|(8388607 : Int)| ≤ 8388607 ∧ |(-8388607 : Int)| ≤ 8388607) ∧ 0 ≤ 4096 ∧ 4096 ≤ 4096 ∧
    (768 ≤ 768 ∧ 768 ≤ 12288 ∧ 766 + 1 < 768) ∧ (768 ≤ 12288 ∧ 12288 ≤ 12288 ∧ 12286 + 1 < 12288) ∧
    766 < 767 ∧ (767 ≤ 767 ∧ 767 < 1535) ∧ 767 ≤ 1534 ∧ 1534 < 1535 := by decide

theorem witness_RingReadsBackWhatWasWritten :
    Memory.wf up.cells = true ∧ up.lines.length = 7 ∧ 0 < (up.line 0).length ∧
    (up.line 0).writeAt < up.lineWords 0 ∧ 0 < (up.line 6).length ∧ (up.line 6).writeAt < up.lineWords 6 ∧
    12286 + 1 < up.lineWords 0 ∧ (5 < 7 ∧ 5 ≠ 6 ∧ 12287 < up.lineWords 5) := by decide

/-- A record for each clause: absent, present, an ensemble, below its floor, and each gate; and the condition
that opens a gate met and not met. -/
theorem witness_LevelsAndGatesFollowTheirRules :
    let m (r : MemberRec) (level : Int) := mixSteps Plan.factory (fun _ => level) (fun _ => true) [] [r]
    let closed := { record3 with s := -80, f := -300, rise := 248 }
    let hold (n : Nat) := { record3 with s := -80, f := -100, gate := .hold, hold := n }
    (1 ≤ (1 : Int) ∧ (32 : Int) ≤ 32 ∧ -480 ≤ (-480 : Int) ∧ (0 : Int) ≤ 0) ∧
    [closed][0]? = some closed ∧ ((m closed (-80)).records[0]?).isSome = true ∧
    (mixSteps Plan.factory (fun _ => -80) (fun _ => false) [] [closed]).records.length = 1 ∧
    closed.rise < 249 ∧ 249 ≤ ({ closed with rise := 249 } : MemberRec).rise ∧
    (m closed (-80)).records.map MemberRec.gate = [.opened] ∧
    (m { closed with f := -80 } (-80)).records.map MemberRec.gate = [.closed] ∧
    (m { closed with gate := .opened, f := -80 } (-80)).records.map MemberRec.hold = [400] ∧
    (m (hold 2) (-80)).records.map MemberRec.hold = [1] ∧
    (m (hold 1) (-80)).records.map MemberRec.gate = [.closed] ∧
    (m { closed with s := -480, f := -300 } (-480)).records.map MemberRec.f = [-480] ∧
    (m { closed with kind := .ensemble } 0).records.map MemberRec.gate = [.closed] ∧
    (m { closed with isNew := true } (-80)).records.map (fun r => (r.t, r.g)) = [(0, 0)] ∧
    (m { closed with g := -9, isNew := false } (-80)).records.map MemberRec.g = [-1] ∧
    (m { closed with g := 9, isNew := false } (-80)).records.map MemberRec.g = [7] ∧
    (m { closed with g := 0, isNew := false } (-80)).records.map MemberRec.g = [0] := by decide +kernel

/-- The duck stands below, above and at its target in three states. -/
theorem witness_DuckFollowsItsTarget :
    let s (d : Int) := atB.modZone 15 fun r => { r with duck := d }
    (s 0).powered = true ∧ (s 0).link.inBlock = 48 ∧ (s 0).zones.length = 16 ∧ 0 ≤ ((s 0).zone 15).duck ∧
    (s 120).zones.length = 16 ∧ ((s 120).zone 15).duck ≤ 120 := by decide

theorem witness_RestFadeRunsOut :
    let s := (serving atB 5).modArea 5 fun r => { r with restCount := 1 }
    let a := (serving atB 0).modArea 0 fun r => { r with restCount := 1 }
    (s.powered = true ∧ s.link.inBlock = 48 ∧ s.areas.length = 6 ∧ s.load = none ∧ s.fallbackDue = false ∧
      (s.area 5).restCount = 1 ∧ (s.area 0).restCount = 0) ∧
    a.quietAtBoundary ∧ a.areas.length = 6 ∧ (a.area 0).restCount = 1 ∧ (a.area 0).stagedState ≠ .held ∧
    ((holding a 0).area 0).stagedState = .held ∧ (holding a 0).validate 0 ((holding a 0).area 0).staged = none ∧
    (rival (staging (holding a 0))).validate 0 ((rival (staging (holding a 0))).area 0).staged ≠ none := by
  decide

theorem witness_BoundaryMakesOneWalkStep :
    let s := { atB with delay := { atB.delay with dirty := [2, 5, 70, 200, 381, 383], pointer := 380 } }
    s.powered = true ∧ s.link.inBlock = 48 ∧ (s.load.any fun l => l.second && l.timer.last) = false ∧
    s.delay.delays.length = 384 ∧ s.delay.dirty.Nodup ∧ (∀ i ∈ s.delay.dirty, i < 384) ∧
    atB.delay.dirty = [] := by decide +kernel

/-- A channel that turns ABSENT, one that turns PRESENT with gaps of two, and a turn of the port. -/
theorem witness_PresenceIsDecidedAtTheBoundary :
    let s := atB.modChannel 24 fun r => { r with
      presence := .present, history := List.replicate 9 true ++ List.replicate 23 false, valid := 47 }
    let s := s.modChannel 0 fun r => { r with
      history := [true] ++ [false, false, true, false, false] ++ List.replicate 26 true, valid := 48 }
    let s := { s with port := { s.port with presence := .present, turns := [.present], silent := 0 } }
    s.quietAtBoundary ∧ s.channels.length = 25 ∧ s.load = none ∧ s.fallbackDue = false ∧
    (s.channel 24).presence = .present ∧ (s.channel 0).presence = .absent ∧
    (∀ b ∈ ((s.channel 24).history.drop 1 ++ [decide ((s.channel 24).valid = 48)]).drop 8, b = false) ∧
    28 ≤ ((s.channel 0).history.drop 1 ++ [true]).count true := by decide

/-- The bus with no holder and a claim, with one whose countdown runs out, with one ENDING, with one that EVAC
displaces, and at a request for a LEVEL line. -/
theorem witness_RequestsAreArbitratedAtTheBoundary :
    let fits (s : State) : Prop := s.quietAtBoundary ∧ s.busOwned ∧ s.early = [] ∧ s.load = none ∧
      s.port.turns = [] ∧ s.presentAhead 24 = decide ((s.channel 24).presence = .present)
    let latched := atB.modOv .o1 fun r => { r with latch := true, state := .requesting }
    let level := { atB with overrideEnable := true, contacts := { released with o4 := true } }.modOv .o4
      fun r => { r with programme := { r.programme with trigger := .level, targets := 1 } }
    let evac := { heldBy atB .o1 .active (.running 2) with contacts := { released with evac := true } }
    fits latched ∧ fits (heldBy atB .o1 .active (.running 1)) ∧ fits (heldBy atB .o1 .ending .none) ∧
    fits evac ∧ fits level := by
  refine ⟨?_, ?_, ?_, ?_, ?_⟩ <;>
    exact ⟨by decide, fun l => by cases l <;> decide, rfl, rfl, rfl, by decide⟩

/-- A zone for each change: sounding with progress and without, called back, QUIET and OFF called away, both
settles at their last block and before it, and LIVE on its goal. -/
theorem witness_ZonesTakeTheirWantedModes :
    let z (r : Zone) := { atB with zones := atB.zones.set 15 r }
    let fits (s : State) : Prop := s.quietAtBoundary ∧ s.zones.length = 16 ∧ s.audioReset = none ∧
      s.load = none ∧ s.fallbackDue = false ∧
      (∀ a < 6, (s.area a).restCount ≠ 1 ∧ (s.area a).transition.any Transition.midpointDue = false) ∧
      s.early.contains (.settle 15) = false
    let test (home : Mode) (j : Nat) := { Zone.reset with home := home, current := .test, progress := j }
    let settle (k : SettleKind) (n : Nat) (y : Mode) := { Zone.reset with
      home := y, current := .quiet, phase := .settle, settleKind := k, settleCount := n, next := some .off }
    let back := { test .test 700 with phase := .fadeOut, next := some .off }
    let live := { Zone.reset with home := .live, current := .live, progress := 700 }
    (fits (z (test .off 1)) ∧ (test .off 1).lawful) ∧ (fits (z (test .quiet 0)) ∧ (test .quiet 0).lawful) ∧
    (fits (z back) ∧ back.lawful) ∧
    (fits (z { Zone.reset with home := .off, current := .quiet }) ∧
      ({ Zone.reset with current := .quiet } : Zone).lawful) ∧
    (fits (z { Zone.reset with home := .test }) ∧ ({ Zone.reset with home := .test } : Zone).lawful) ∧
    (fits (z (settle .leavingOff 1 .quiet)) ∧ (settle .leavingOff 1 .quiet).lawful) ∧
    (fits (z (settle .enteringOff 2 .off)) ∧ (settle .enteringOff 2 .off).lawful) ∧
    (fits (z (settle .enteringOff 1 .test)) ∧ (settle .enteringOff 1 .test).lawful) ∧
    (fits (z live) ∧ live.lawful) := by
  refine ⟨?_, ?_, ?_, ?_, ?_, ?_, ?_, ?_, ?_⟩ <;>
    exact ⟨by decide, Zone.lawful_of_checks _ (by decide)⟩

theorem witness_FrameAdvancesTheCounter :
    let last := { atB with link := { atB.link with counter := 4294967295 } }
    up.powered = true ∧ up.link.counter < 4294967296 ∧ last.link.counter < 4294967296 ∧
    last.link.counter = 4294967295 ∧ last.link.inBlock = 48 := by decide

/-- In holdover, TRACKING, and TRACKING with no frame. -/
theorem witness_FramesPassOnWhatArrives :
    let s := { up with link := { up.link with inBlock := 47 } }
    (s.quiet ∧ s.link.chain = .lost ∧ s.link.inBlock < 48 ∧ s.channels.length = 25) ∧
    ((tracking s).quiet ∧ (tracking s).link.chain = .tracking ∧ (frameOf 5).slots.length = 64 ∧
      (frameOf 5).good = true ∧ ({ frameOf 5 with syncGood := false } : ChainFrame).good = false) ∧
    ¬ s.slotMap.writes 31 ∧ ¬ s.slotMap.writes 48 ∧ s.slotMap.writes 32 ∧ s.slotMap.writes 47 := by
  refine ⟨?_, ⟨?_, ?_, ?_, frameWith_good 5 0 _, by simp [ChainFrame.good]⟩, ?_⟩ <;> decide +kernel

/-- TRACKING with a good frame whose lane is idle, a line under flush and one in service; the port with two
words and with three. -/
theorem witness_FramesFeedTheLines :
    let s := tracking { serving up 0 with flush := some (6, ⟨8, true⟩) }
    let s := { s with port := { s.port with
      presence := .present, reading := true, silent := 0, store := [1, 2] } }
    let i : FrameInput := ⟨some (frameOf 5), released, []⟩
    (s.quiet ∧ s.link.inBlock < 48 ∧ s.tablesWhole ∧ Memory.wf s.cells = true ∧ i.upsets = [] ∧
      (∀ f ∈ i.arriving, laneCount f.laneControl = 0) ∧ up.link.chain = .lost ∧ s.running 0 = true ∧
      s.port.store.length ≤ 2 ∧ 2 < (s.port.store ++ [3]).length) ∧ s.lawful :=
  ⟨by decide +kernel, State.lawful_of_checks _ (by decide +kernel)⟩

/-- A zone in each mode that sounds: LIVE on its path, in a crossfade and in a dip, TEST, ANNOUNCE from L6 and on
the bypass. -/
theorem witness_FramesGiveEachZoneItsSample :
    let live : Zone := { Zone.reset with current := .live, progress := 1536, tap := some 3 }
    let s := (serving up 0).modArea 0 fun r => { r with
      live := { r.live with zones := (List.range 3).map fun z => ⟨z, 0⟩ }
      transition := some ⟨.crossfade .lead, 768, 767, [⟨1, some 0, some 12287⟩], false, false⟩ }
    let s := s.modArea 1 fun r => { r with transition := some ⟨.dip 1, 1536, 767, [⟨2, some 0, none⟩], true, false⟩ }
    let s := { s with zones := [live, live, live, { live with current := .test },
      { live with current := .announce }, { live with current := .announce, bypass := true }] ++ s.zones.drop 6 }
    let i : FrameInput := ⟨none, released, []⟩
    (s.quiet ∧ s.link.inBlock < 48 ∧ s.tablesWhole ∧ i.upsets = [] ∧ (∀ w ∈ s.cells, w.2.parityBad = false) ∧
      s.link.chain = .lost ∧ s.pathAvailable 0 = true ∧ s.inTransition 0 = none ∧ s.inTransition 1 = some 0 ∧
      s.inTransition 2 = some 1 ∧ s.slotMap.zones.getD 15 none = some 47) ∧ s.lawful :=
  ⟨by decide +kernel, State.lawful_of_checks _ (by decide +kernel)⟩

/-- A LIVE zone and one in ANNOUNCE that read a word upset in the frame, at the ends of their lines; and the
fault of a line whose area is in a dip. -/
theorem witness_ParityFaultStopsTheLine :
    let live : Zone := { Zone.reset with current := .live, progress := 1536, tap := some 12287 }
    let s := (serving up 0).modArea 0 fun r => { r with live := { r.live with zones := [⟨0, 0⟩] } }
    let s := { s with zones := live :: { live with current := .announce, announceTap := 0 } :: s.zones.drop 2 }
    let i : FrameInput := ⟨none, released, [1, 73728]⟩
    let dips := inFlight s (.dip 0) 767
    ((s.quiet ∧ s.link.inBlock < 48 ∧ s.tablesWhole ∧ s.allocClear = none ∧ s.audioReset = none ∧
      s.link.chain = .lost ∧ s.pathAvailable 0 = true ∧ s.steeringArea 0 = some 0 ∧ s.inTransition 0 = none ∧
      (s.line 0).length ≠ 0 ∧ (s.zone 1).bypass = false ∧ (s.line 6).faulted = false ∧ s.flushing 6 = false) ∧
      (match exec (.frame i) s with
        | .next t => (t.lineWord 0 12287).parityBad && (t.lineWord 6 0).parityBad
        | _ => false) = true) ∧
    (dips.areas.length = 6 ∧ dips.lines.length = 7 ∧ dips.zones.length = 16 ∧ (dips.line 0).faulted = false ∧
      (dips.area 0).transition.isSome = true ∧ (∀ b < 6, b ≠ 0 → dips.affectedOn b 2 = none) ∧
      ((dips.lineFault 0).line 0).faulted = true) ∧ s.lawful :=
  ⟨by decide +kernel, by decide +kernel, State.lawful_of_checks _ (by decide +kernel)⟩

/-- A whole packet, a length above 116, a packet cut off before and after its fourth byte, and a broadcast
WAKE UNIT that completes in a frame. -/
theorem witness_LanePacketsAreReceived :
    let wake := packetBytes 63 7 1 35 []
    let s := tracking { up with standby := true, link := { up.link with
      reception := some ⟨wake.take 8, some 9, .forward⟩, forward := [⟨wake.take 8, false⟩] } }
    let f := frameWith 5 1 [wake.getD 8 0, 0, 0, 0]
    let l := (⟨s.link.reception, [], none, 0⟩ : Lane).frame s.link.address f.good f.laneControl f.laneBytes
    wake.length = 9 ∧ wake.getD 4 0 = 0 ∧ 116 < (117 : Byte).toNat ∧ (wake.take 3).length < 4 ∧
    4 ≤ (wake.take 8).length ∧ (s.quiet ∧ s.link.inBlock < 48 ∧ s.link.chain = .tracking) ∧
    l.taken = some wake ∧ l.taken.bind (acceptance s.link.address s.link.groups) = some .broadcast ∧
    (parsePacket .broadcast wake).1 = 35 ∧ (parsePacket .broadcast wake).2.body = [] ∧
    s.engineBusy = false := by
  simp only [frameWith_good]
  decide +kernel

set_option maxRecDepth 20000 in
/-- A sole WAKE UNIT that a frame completes: the frame leaves nothing outstanding. -/
theorem witness_SolePacketIsHandedOn :
    let wake := packetBytes 5 7 1 35 []
    let s := tracking { up with standby := true, link := { up.link with
      address := 5, reception := some ⟨wake.take 8, some 9, .strip⟩ } }
    let f := frameWith 5 1 [wake.getD 8 0, 0, 0, 0]
    let l := (⟨s.link.reception, [], none, 0⟩ : Lane).frame s.link.address f.good f.laneControl f.laneBytes
    (s.quiet ∧ s.link.inBlock < 48) ∧ l.taken = some wake ∧
    l.taken.bind (acceptance s.link.address s.link.groups) = some .sole ∧
    (parsePacket .sole wake).1 = 35 ∧ (State.period s ⟨some f, up.contacts, []⟩).1.settleEvents.quiet ∧
    requestRows.any (fun r => r.kind == 35) = true := by
  simp only [frameWith_good]
  decide +kernel

/-- A lane for each row of the table. -/
theorem witness_OutgoingLaneFollowsItsTable :
    let s (sending : Sending) (forward : List Run) (queue : List Entry) :=
      tracking { up with link := { up.link with sending := sending, forward := forward }, queue := queue }
    let fits (s : State) : Prop := (s.quiet ∧ s.link.inBlock < 48) ∧ s.link.laneLaw
    let listening := { up with link := { up.link with address := 63 } , queue := [⟨0, 0, 65, []⟩] }
    fits (s (.sendingLocal [1]) [] []) ∧ fits (s .forwarding [⟨[1, 2, 3, 4, 5], true⟩] []) ∧
    fits (s .idle [⟨[1], true⟩] [⟨0, 0, 65, []⟩]) ∧ fits (s .idle [] [⟨0, 0, 65, []⟩]) ∧
    fits listening ∧ fits (s .idle [] []) := by
  refine ⟨?_, ?_, ?_, ?_, ?_, ?_⟩ <;>
    exact ⟨by decide, Link.laneLaw_of_checks _ (by decide)⟩

theorem witness_ChainAndPortEvents :
    let s := tracking up
    let lost := { s with link := { s.link with badCount := 24 } }
    let back := { up with link := { up.link with
      history := List.replicate 4 false ++ List.replicate 60 true } }
    let p (reading slip : Bool) := { up with port := { up.port with
      presence := .present, reading := reading, slipPending := slip, silent := 0 } }
    let silent := { up with port := { up.port with presence := .present } }
    (lost.powered = true ∧ lost.posts = [] ∧ lost.link.chain = .tracking ∧ 24 ≤ lost.link.badCount) ∧
    (back.powered = true ∧ back.posts = [] ∧ back.link.chain = .lost ∧
      60 ≤ back.link.history.count true ∧ ∀ b ∈ back.link.history.drop 56, b = true) ∧
    ((p true true).quiet ∧ (p true true).port.presence = .present ∧ (p true true).port.slipPending = true) ∧
    ((p true false).quiet ∧ (p true false).port.slipPending = false) ∧
    (up.quiet ∧ up.port.presence ≠ .present) ∧
    (silent.powered = true ∧ silent.posts = [] ∧ 48 ≤ silent.port.silent ∧ silent.port.presence = .present) ∧
    48 ≤ up.port.silent ∧ up.port.presence = .absent := by decide

theorem witness_NoticeIsFlaggedThenSent :
    let full (n : Nat) := { up with queue := List.replicate n ⟨0, 0, 0, []⟩ }
    up.posts = [] ∧ up.kindMask.getLsbD NoticeKind.presence.index = false ∧
    up.suppress.getLsbD NoticeKind.presence.category.index = false ∧ (full 7).queue.length < 8 ∧
    8 ≤ (full 8).queue.length ∧
    ({ up with kindMask := 4 } : State).kindMask.getLsbD NoticeKind.presence.index = true ∧
    ({ up with suppress := 4 } : State).suppress.getLsbD NoticeKind.presence.category.index = true := by
  decide

theorem witness_RequestIsCheckedInOrder :
    let full := { up with queue := List.replicate 8 ⟨0, 0, 0, []⟩ }
    let busy := { up with audioReset := some ⟨32, true⟩ }
    let keyed := { up with unitKey := 7 }
    ((req []).manner = .sole ∧ 8 ≤ full.queue.length) ∧ up.queue.length < 8 ∧
    (broadcast []).manner ≠ .sole ∧ exactly 1 (req []).body = false ∧ exactly 0 (req []).body = true ∧
    busy.engineBusy = true ∧ up.engineBusy = false ∧
    (keyed.byUnitKey (req []) ≠ 0 ∧ keyed.byUnitKey (req []) ≠ (req []).key) ∧
    up.byUnitKey (req []) = 0 ∧ up.quiet ∧ unknownKindOk 0 = true ∧ unknownKindOk 63 = true ∧
    64 ≤ (64 : Byte).toNat := by decide

/-- R194: every request kind but 17 has its row, and each row accepts some length and refuses another, on a unit
that is quiet, full, busy or keyed. -/
theorem witness_RequestRows :
    let full := { up with queue := List.replicate 8 ⟨0, 0, 0, []⟩ }
    let busy := { up with audioReset := some ⟨32, true⟩ }
    let keyed := { up with unitKey := 7 }
    requestRows.map RequestRow.kind = (List.range 16).map (· + 1) ++ (List.range 13).map (· + 18) ++
      [31, 31, 31, 32, 33, 34, 35] ∧
    (∀ r ∈ requestRows, r.fits 99 = false ∧ (List.range 15).any r.fits = true) ∧
    (itemLengths 1 4 12 49 && itemLengths 0 4 24 96 && itemLengths 0 2 41 82) = true ∧
    (full.quiet ∧ full.loadAloneBusy = false) ∧ (busy.quiet ∧ busy.loadAloneBusy = false ∧ busy.engineBusy = true) ∧
    (keyed.quiet ∧ keyed.engineBusy = false ∧ unitKeyed keyed (req []) ≠ 0 ∧
      unitKeyed keyed (req []) ≠ (req []).key) ∧ areaKeyed up (req [6]) = 0 := by decide +kernel

theorem witness_DetectorLocksAndFollows :
    let p (state : DetectorState) (confirmed mismatches progress : Nat) := { up with proving :=
      { up.proving with
        state := state, confirmed := confirmed, mismatches := mismatches, progress := progress } }
    let q := { Proving.reset with
      state := .locked, mismatches := 14, flywheel := (List.range 20).map fun n => (1#20).getLsbD n }
    ((p .searching 32 0 0).proving.state = .searching ∧ 32 ≤ (p .searching 32 0 0).proving.confirmed) ∧
    ((p .locked 0 16 3).proving.state = .locked ∧ 16 ≤ (p .locked 0 16 3).proving.mismatches) ∧
    ((p .locked 0 15 256).proving.mismatches < 16 ∧ 256 ≤ (p .locked 0 15 256).proving.progress) ∧
    ((p .locked 0 15 256).powered = true ∧ (p .locked 0 15 256).posts = []) ∧
    ((tracking (p .searching 0 0 0)).quiet ∧ up.link.inBlock < 48 ∧ (p .locked 0 0 0).quiet ∧
      (p .locked 0 0 0).link.chain = .lost ∧ (List.replicate 20 false).length = 20 ∧
      (∀ x ∈ List.replicate 20 false, x = false) ∧ ∃ x ∈ true :: List.replicate 19 false, x = true) ∧
    (1#20 : BitVec 20) ≠ 0 ∧ q.state = .locked ∧ q.mismatches < 16 ∧
    q.flywheel = (List.range 20).map (fun n => (1#20).getLsbD n) := by decide

/-- A floor, a gate and a lead due at one boundary each; an election with a challenger at its last block. -/
theorem witness_MixerEvents :
    let floor := mixing3 { record3 with rise := 249, s := -480, f := -480 } 0
    let gate := mixing3 { record3 with s := -480, gate := .hold, hold := 1, f := -40 } 0
    let lead := (mixing3 { record3 with s := -80, gate := .opened } 838861).modArea 0 fun a =>
      { a with challenger := some ⟨⟨3, .speech⟩, 249⟩ }
    floor.quietAtBoundary ∧ floor.areas.length = 6 ∧ ((floor.area 0).record 3).isSome = true ∧
    floor.floorDue 0 3 = true ∧ gate.quietAtBoundary ∧ ((gate.area 0).record 3).isSome = true ∧
    gate.gateDue 0 3 = true ∧ lead.quietAtBoundary ∧ lead.leadDue 0 = some ⟨3, .speech⟩ ∧
    (lead.areas.length = 6 ∧ lead.running 0 = true ∧ lead.audioReset = none ∧ lead.load = none ∧
      lead.save = none ∧ lead.fallbackDue = false ∧ lead.early = [] ∧
      (∀ a < 6, (lead.area a).restCount ≠ 1 ∧ (lead.area a).transition.any Transition.midpointDue = false) ∧
      ((lead.mixAhead 0).records.any fun r => r.gate == .opened && lead.presentAhead r.position) = true ∧
      ((floor.mixAhead 0).records.all fun r => r.gate == .closed) = true) := by
  decide +kernel

theorem witness_SteeringRequestByPhase :
    let due (s : State) := s.modArea 0 fun r => { r with due := true }
    let s := due (serving atB 0)
    let resting := s.modArea 0 fun r => { r with restCount := 9 }
    let faulted := s.modLine 0 fun l => { l with faulted := true }
    let blocked := { holding s 0 with save := some ⟨⟨9, true⟩, ImageData.factory⟩ }
    let idle (s : State) : Bool := !s.flush.any (fun f => f.2.last) && !s.audioReset.any Timer.last &&
      !s.save.any (fun v => v.timer.last) && areaIndexes.all fun b => !(s.area b).transitionDone &&
        !(s.area b).transition.any Transition.midpointDue && !(s.area b).decisionDue && !(s.area b).checkDue
    (s.quietAtBoundary ∧ (s.area 0).due = true ∧ s.beforeRequests.phase 0 = .settled ∧
      (s.beforeRequests.area 0).stagedState ≠ .held) ∧
    (blocked.quietAtBoundary ∧ blocked.beforeRequests.phase 0 = .settled ∧
      (blocked.beforeRequests.area 0).stagedState = .held) ∧
    (inFlight s (.crossfade .lead) 1535).beforeRequests.phase 0 = .crossfade ∧
    (holding s 0).beforeRequests.phase 0 = .dip ∧ resting.beforeRequests.phase 0 = .resting ∧
    (due atB).beforeRequests.phase 0 = .idle ∧ faulted.beforeRequests.phase 0 = .faulted ∧
    (idle s = true ∧ ∀ b < 6, s.dipChoice b = none) ∧
    (idle (holding s 0) = true ∧ (holding s 0).phase 0 = .settled ∧ (holding s 0).dipChoice 0 = some 0 ∧
      ∀ b < 6, b ≠ 0 → (holding s 0).dipChoice b = none) ∧
    (0 < 16 ∧ 16 * 48 - 1 < 768 ∧ 767 ≤ 16 * 48 - 1) ∧ s.status.tapClamped.getLsbD 15 = false ∧
    ({ s.status with tapClamped := 0x8000#16 } : Status).tapClamped.getLsbD 15 = true := by decide +kernel

/-- R88: a dip that falls due for the take of a joined area starts ahead of the request, which waits. -/
theorem test_request_behind_dip :
    let s := holding ((serving (serving atB 0) 5).modArea 5 fun r => { r with live := { r.live with join := some 0 } }) 5
    (match exec (.steeringRequest 0) (s.modArea 0 fun r => { r with due := true }) with
    | .next t => ((t.area 0).transition.map Transition.kind, (t.area 0).pendingRequest)
    | _ => (none, false)) = (some (.dip 5), true) := by decide +kernel

/-- R117: a change from EVAC's announcement to OFF that is called back from its settle stays short. -/
theorem test_called_back_short :
    let r := { Zone.reset with current := .announce, entered := some .evac, progress := 1, length := 384 }
    let settling := (Zone.beginEnteringSettle (r.beginChange .off (some .evac)))
    let back := (settling.alterChange .test false (some .evac)).1.switched .test true
    settling.short = true ∧ (back.short, back.length) = (true, 384) := by decide

theorem witness_DipStartsForTheWaitingTake :
    let s := serving atB 0
    let joined := holding ((serving s 5).modArea 5 fun r => { r with live := { r.live with join := some 0 } }) 5
    let decision := (holding s 0).modArea 0 fun r => { r with decisionDue := true }
    (holding s 0).quietAtBoundary ∧ (holding s 0).phase 0 = .settled ∧ (holding s 0).takeWaits 0 = true ∧
    s.early.contains (.flushed 0) = false ∧ joined.quietAtBoundary ∧ joined.phase 0 = .settled ∧
    joined.takeWaits 0 = false ∧ joined.joinedTo 5 0 = true ∧ joined.takeWaits 5 = true ∧
    (decision.area 0).decisionDue = true ∧ decision.phase 0 = .settled ∧ decision.takeWaits 0 = true ∧
    (decision.modLine 0 fun l => { l with faulted := true }).phase 0 ≠ .settled ∧
    ((s.modArea 0 fun r => { r with decisionDue := true }).phase 0 = .settled ∧ s.takeWaits 0 = false ∧
      ∀ b < 6, b ≠ 0 → s.joinedTo b 0 = true → s.takeWaits b = false) := by decide

theorem witness_DipMidpointAppliesTheTake :
    let s := inFlight (serving atB 0) (.dip 0) 768
    let t := (s.area 0).transition.getD ⟨.dip 0, 0, 0, [], true, false⟩
    s.quietAtBoundary ∧ (s.area 0).transition = some t ∧ t.kind = .dip 0 ∧ 768 ≤ t.progress ∧
    t.midDone = false ∧ (s.area 0).stagedState ≠ .held ∧ ((holding s 0).area 0).stagedState = .held ∧
    (holding s 0).validate 0 ((holding s 0).area 0).staged = none ∧
    (rival (staging (holding s 0))).validate 0 ((rival (staging (holding s 0))).area 0).staged ≠ none ∧
    { t with withdrawn := true }.withdrawn = true ∧ (∃ f ∈ t.zones, f.zone = 2) ∧ s.zones.length = 16 ∧
    ((s.modZone 2 fun r => { r with current := .live }).pathAvailable 2) = false := by
  decide

theorem witness_TransitionCompletes :
    let s := inFlight (serving atB 0) (.crossfade .lead) 1536
    let t := (s.area 0).transition.getD ⟨.dip 0, 0, 0, [], true, false⟩
    s.quietAtBoundary ∧ s.areas.length = 6 ∧ s.zones.length = 16 ∧ (s.area 0).transition = some t ∧
    t.length ≤ t.progress ∧ (t.zones.map Affected.zone).Nodup ∧ (∀ f ∈ t.zones, f.zone < 16) ∧
    ((holding s 0).area 0).stagedState = .held ∧ (s.area 0).service = .inService ∧
    (s.area 0).restCount = 0 ∧ s.save = none ∧ (s.area 0).live.join = none ∧ s.audioReset = none ∧
    s.lineDown 0 = false := by decide

theorem witness_ClearsEndWithSilentLines :
    let tm : Timer := ⟨1, true⟩
    atB.quietAtBoundary ∧ atB.lines.length = 7 ∧ Memory.wf atB.cells = true ∧ tm.started = true ∧
    tm.remaining ≤ 1 ∧ ({ atB with allocClear := some tm } : State).allocClear = some tm ∧
    ({ atB with flush := some (6, tm) } : State).flush = some (6, tm) ∧
    ({ atB with audioReset := some tm } : State).audioReset = some tm := by decide

theorem witness_SaveAndFirstPassEnd :
    let saving := { atB with save := some ⟨⟨1, true⟩, ImageData.factory⟩ }
    let loading := { atB with load := some ⟨⟨1, true⟩, false, false⟩ }
    let good : ImageMemory := ⟨formatMark, true, ImageData.factory⟩
    saving.quietAtBoundary ∧ (∀ a < 6, (saving.area a).stagedState ≠ .held) ∧
    loading.quietAtBoundary ∧ loading.early.contains .loadPass = false ∧
    imageFailure loading.image = some .blank ∧ imageFailure good = none ∧
    (∀ b < 6, ((holding saving 5).area b).stagedState = .held ↔ b = 5) ∧
    (∀ b < 6, ((holding loading 0).area b).stagedState = .held ↔ b = 0) ∧
    (holding saving 5).quietAtBoundary ∧ ((holding saving 5).area 5).service = .dormant ∧
    (holding loading 0).quietAtBoundary ∧ (holding (serving saving 0) 0).phase 0 = .settled ∧
    (holding (serving saving 0) 0).quietAtBoundary ∧ (saving.validate 5 (saving.area 5).staged) = none ∧
    (rival (staging (holding loading 0))).validate 0 (staging loading |>.area 0).staged ≠ none := by
  decide +kernel

/-- An image for each row of the table of checks. -/
theorem witness_ImageChecksInOrder :
    let d := ImageData.factory
    let m (x : ImageData) : ImageMemory := ⟨(165, 28), true, x⟩
    let member : Plan := { Plan.factory with members := [⟨23, .speech, 0⟩] }
    let zoned : Plan := { Plan.factory with zones := [⟨15, 0⟩] }
    let join (a : Nat) : Plan := { Plan.factory with join := some a }
    imageFailure ⟨(165, 29), true, d⟩ = some .blank ∧ imageFailure ⟨(165, 28), false, d⟩ = some .sum ∧
    imageFailure (m { d with temperature := 401 }) = some .range ∧
    imageFailure (m { d with plans := member :: member :: List.replicate 4 Plan.factory }) =
      some .memberConflict ∧
    imageFailure (m { d with plans := zoned :: List.replicate 4 Plan.factory ++ [zoned] }) =
      some .zoneConflict ∧
    imageFailure (m { d with plans := join 1 :: join 2 :: List.replicate 4 Plan.factory }) =
      some .joinChain ∧
    imageFailure (m { d with allocation := [1024, 1024, 16, 0, 0, 0, 0] }) = some .allocation ∧
    imageFailure (m { d with zoneSlots := List.replicate 16 (some 63) }) = some .slotConflict ∧
    imageFailure (m { d with zoneSlots := List.replicate 16 none }) = none := by decide +kernel

theorem witness_SecondPassAndFallbackInstall :
    let s (powerUp : Bool) := { atB with load := some ⟨⟨1, true⟩, true, powerUp⟩ }
    let due := { atB with fallbackDue := true }
    (∀ b, (s b).quietAtBoundary ∧ (s b).areas.length = 6 ∧ (s b).lines.length = 7 ∧ (s b).zones.length = 16 ∧
      (s b).early.contains .loadPass = false ∧ ∀ a < 6, ((s b).area a).service = .dormant) ∧
    due.quietAtBoundary ∧ due.areas.length = 6 ∧ due.zones.length = 16 ∧ due.fallbackDue = true := by decide

theorem witness_ZoneEventsFollowTheChange :
    let s (r : Zone) := { atB with zones := atB.zones.set 15 r }
    let out := s { Zone.reset with current := .live, phase := .fadeOut, next := some .off, progress := 0 }
    let test := s { Zone.reset with current := .live, phase := .fadeOut, next := some .test, progress := 0 }
    let settle := s { Zone.reset with phase := .settle, next := some .off, settleCount := 1 }
    let leave := s { Zone.reset with phase := .settle, next := some .live, settleCount := 1 }
    let fade := s { Zone.reset with current := .test, phase := .fadeIn, progress := 1536 }
    (out.quietAtBoundary ∧ (out.zone 15).phase = .fadeOut ∧ (out.zone 15).next = some .off) ∧
    (test.quietAtBoundary ∧ (test.zone 15).next = some .test) ∧
    ((settle.zone 15).phase = .settle ∧ (settle.zone 15).settleCount ≤ 1 ∧
      (settle.zone 15).next = some .off ∧ settle.early.contains (.settle 15) = false) ∧
    (leave.zone 15).next = some .live ∧
    (fade.zone 15).phase = .fadeIn ∧ (fade.zone 15).length ≤ (fade.zone 15).progress := by decide

theorem witness_CountdownAndRelease :
    let edge := heldBy atB .o1 .active (.running 1)
    let level := (edge.modOv .o1 fun r =>
      { r with copy := some { Programme.factoryO with trigger := .level }, countdown := .running 0 })
    let ahead := heldBy atB .evac .ending .none
    let asked (s : State) := (heldBy s .evac .ending .none).modOv .o1 fun r => { r with latch := true }
    let ending := heldBy up .evac .ending .none
    (edge.quietAtBoundary ∧ edge.holder = some .o1 ∧ (edge.ov .o1).state = .active ∧
      (edge.ov .o1).countdown = .running 1 ∧ (edge.ov .o1).trigger = .edge ∧
      edge.early.contains .loaded = false) ∧
    ((level.ov .o1).countdown = .running 0 ∧ (level.ov .o1).trigger = .level ∧ contactOf level.contacts .o1 = false) ∧
    ending.quiet ∧ ending.link.inBlock = 0 ∧ ending.holder = some .evac ∧
    (ending.ov .evac).state = .ending ∧ (∀ r ∈ ending.zones, r.current ≠ .announce) ∧
    (∀ m ∈ ovLines, ending.requesting m = false) ∧ ending.early.contains .turned = false ∧
    (ahead.quiet ∧ ahead.link.inBlock = 48 ∧ ∀ m ∈ ovLines, ahead.sampleLines.requesting m = false) ∧
    (asked up).requesting .o1 = true ∧ (asked atB).sampleLines.requesting .o1 = true := by decide

/-- R141, R150: a line that requests under a programme replaced at this boundary holds the release back. -/
theorem test_release_under_replaced :
    let ps := { atB.programmes with o1 := { Programme.factoryO with trigger := .level, targets := 1#16 } }
    let s := { heldBy atB .evac .ending .none with
      contacts := { released with o1 := true }, early := [.settings true ps], overrideEnable := true }
    s.releaseAhead = none ∧ ({ s with early := [] } : State).releaseAhead = some .evac := by decide +kernel

theorem witness_PowerComesAndGoes :
    up.save = none ∧ ({ up with save := some ⟨⟨400, true⟩, ImageData.factory⟩ } : State).save.isSome = true ∧
    released.evac = false ∧ ({ released with evac := true } : Contacts).evac = true := by decide

theorem witness_ReadsAnswerWhatStands :
    up.quiet ∧ up.mustDrop (req [0]) = false ∧ up.open_ (req []) ∧ 2 ≤ (2 : Byte).toNat ∧
    ({ up with audioReset := some ⟨32, true⟩ } : State).audioReset.any Timer.started = true ∧
    (let s := { up with load := some ⟨⟨200, true⟩, false, true⟩ }
     s.quiet ∧ s.mustDrop (req []) = false ∧ s.engineBusy = true ∧
      (s.audioReset.any Timer.started || s.allocClear.any Timer.started) = false) ∧
    (23 : Byte).toNat < 24 ∧ ¬ (24 : Byte).toNat < 24 ∧ 6 ≤ (6 : Byte).toNat ∧ (5 : Byte).toNat < 6 ∧
    (1 : Byte).toNat < 2 ∧ 2 ≤ (2 : Byte).toNat ∧ 3 ≤ (3 : Byte).toNat := by decide

/-- A subject whose values fit, one that is not listed, and the two ends of the ranges. -/
theorem witness_MonitorAnswersItsSubjects :
    up.quiet ∧ up.mustDrop (req [23]) = false ∧ (up.monitorValues 23).isSome = true ∧
    up.monitorValues 26 = none ∧ up.monitorValues 255 = none ∧
    (((up.monitorValues 0).getD []).map Field.bytes).sum ≤ 115 ∧
    (32 ≤ (32 : Byte).toNat ∧ (37 : Byte).toNat < 38) ∧
    115 < (((mixing3 record3 0).modArea 0 fun a =>
      { a with records := List.replicate 24 record3 }).monitorValues 32 |>.getD [] |>.map Field.bytes).sum := by
  decide +kernel

theorem witness_StatusIsClearedAndMasked :
    up.quiet ∧ up.open_ (req []) ∧
    (((1 * 256 + 255) * 256 + 255) * 256 + 255 < 2 ^ 25 ∧ (63 : Byte).toNat < 64) ∧
    2 ^ 25 ≤ ((2 * 256 + 0) * 256 + 0) * 256 + 0 ∧ 64 ≤ (64 : Byte).toNat := by decide

/-- The ends of the items' ranges; twelve items; a bad one behind a good one; areas 5 and 6; a take held and
none. -/
theorem witness_PlanEditsKeepTheRanges :
    let good : List Byte := [1, 3, 0, 0]
    let bad : List Byte := [1, 24, 0, 0]
    (planInRange 5 Plan.factory = true ∧ itemOk 5 [1, 23, 1, 0x80] = true ∧
      ((23 : Byte).toNat < 24 ∧ (1 : Byte).toNat < 2) ∧ (15 : Byte).toNat < 16 ∧
      (numericRange 8).isSome = true ∧ (numericRange 21).isSome = true) ∧
    up.quiet ∧ (∀ i ∈ List.replicate 12 good, i.length = 4) ∧ up.open_ (req []) ∧ 6 ≤ (6 : Byte).toNat ∧
    up.admits (req []) (up.area 5).live.areaKey ∧ ((holding up 5).area 5).stagedState = .held ∧
    (up.area 5).stagedState ≠ .held ∧ [good, bad] = [good] ++ bad :: [] ∧ itemOk 5 good = true ∧
    itemOk 5 bad = false := by decide

theorem witness_TakeFollowsTheServiceState :
    let saving := { up with save := some ⟨⟨400, false⟩, ImageData.factory⟩ }
    up.quiet ∧ up.areas.length = 6 ∧ up.open_ (req []) ∧ up.admits (req []) (up.area 0).live.areaKey ∧
    ((holding up 0).area 0).stagedState = .held ∧ ((serving up 0).area 0).service = .inService ∧
    saving.save.isSome = true ∧ (up.area 0).stagedState ≠ .held ∧ (up.area 0).service = .dormant ∧
    up.save = none ∧ up.load = none ∧ up.validate 0 (up.area 0).staged = none ∧
    (rival (staging up)).validate 0 ((rival (staging up)).area 0).staged = some (.memberConflict, 3) := by
  decide +kernel

theorem witness_DiscardRestoresTheLiveRank :
    let keyed := up.modArea 5 fun r => { r with live := { r.live with areaKey := 7 } }
    let s := inFlight (serving atB 0) (.dip 0) 768
    let t := (s.area 0).transition.getD ⟨.dip 0, 0, 0, [], true, false⟩
    up.quiet ∧ up.open_ (req [6]) ∧ up.admits (req [5]) (up.area 5).live.areaKey ∧
    (up.area 5).stagedState = .clean ∧ (up.area 5).staged = (up.area 5).live ∧
    ((keyed.area 5).live.areaKey ≠ 0 ∧ (keyed.area 5).live.areaKey ≠ (req [5]).key) ∧
    s.quietAtBoundary ∧ (s.area 0).transition = some t ∧ t.kind = .dip 0 ∧ 768 ≤ t.progress ∧
    t.midDone = false ∧ (s.area 0).stagedState ≠ .held := by decide

theorem witness_WakePutsAnAreaInService :
    let fading := (serving up 5).modArea 5 fun r => { r with restCount := 32 }
    let standing := { up with standby := true }
    let plan := up.modArea 5 fun r => { r with live := { r.live with zones := [⟨15, 0⟩] } }
    up.quiet ∧ up.open_ (req [6]) ∧ up.areas.length = 6 ∧ up.zones.length = 16 ∧
    up.admits (req [5]) (up.area 5).live.areaKey ∧ (fading.area 5).service = .inService ∧
    (fading.area 5).restCount ≠ 0 ∧ ((serving up 5).area 5).restCount = 0 ∧
    (up.area 5).service = .dormant ∧ State.reset.load.isSome = true ∧ up.load = none ∧
    standing.standby = true ∧ up.standby = false ∧ (plan.area 5).live.join = none ∧
    (plan.area 5).live.zones.map ZoneEntry.zone = [15] := by decide

/-- A zone of area 5 that sounds, with nothing under way, and a zone that is not LIVE. -/
theorem witness_RestBeginsTheFade :
    let s := ((serving up 5).modArea 5 fun r => { r with live := { r.live with zones := [⟨15, 0⟩] } }).modZone 15
      fun r => { r with home := .live, current := .live, wanted := .live, progress := 1536 }
    s.quiet ∧ s.open_ (req [6]) ∧ s.areas.length = 6 ∧ s.zones.length = 16 ∧
    s.admits (req [5]) (s.area 5).live.areaKey ∧ (up.area 5).service = .dormant ∧
    (s.area 5).service = .inService ∧ (s.area 5).restCount = 0 ∧ s.zoneArea 15 = some 5 ∧
    (s.zone 15).current = .live ∧ (s.zone 15).wanted = .live ∧ (s.zone 15).changing = false ∧
    0 < (s.zone 15).progress ∧ (∀ b < 6, s.affectedOn b 15 = none) ∧ (s.zone 0).current ≠ .live ∧
    (let dips := s.modArea 5 fun r => { r with
        transition := some ⟨.dip 5, 1536, 767, [⟨15, some 0, some 0⟩], false, false⟩ }
     dips.quiet ∧ dips.affectedOn 5 15 ≠ none ∧ ∀ b < 6, b ≠ 5 → dips.affectedOn b 15 = none) := by decide

theorem witness_DistancesAndTemperatureAreTaken :
    let ok (e : Byte × Byte × BitVec 16) : Bool := decide (e.1.toNat < 24) && decide (e.2.1.toNat < 16)
    up.quiet ∧ up.admits (req []) up.unitKey ∧ State.reset.load.isSome = true ∧ up.save = none ∧
    up.load = none ∧ ok (23, 15, 20000) = true ∧ ok (24, 0, 0) = false ∧ ok (0, 16, 0) = false ∧
    20000 < (20001#16).toNat ∧ up.delay.distances.length = 384 := by decide +kernel

theorem witness_AllocationAndFlushAreChecked :
    let faulty := up.modLine 6 fun l => { l with faulted := true }
    let cleared := { up with allocClear := some ⟨32, false⟩ }
    let stored (ls : List (BitVec 16)) : Nat :=
      (ls.map fun n => if n = 0 then 0 else max 16 (min 1024 n.toNat)).sum
    up.quiet ∧ up.admits (req []) up.unitKey ∧ cleared.allocClear.isSome = true ∧
    ((serving up 5).area 5).service = .inService ∧ stored [1024, 1024, 1, 0, 0, 0, 0] = 2064 ∧
    stored [1024, 1008, 1, 0, 0, 0, 0] = 2048 ∧ 7 ≤ (7 : Byte).toNat ∧ (6 : Byte).toNat < 7 ∧
    (faulty.line 6).faulted = true ∧ (up.line 6).faulted = false ∧
    (up.save.isSome || up.load.isSome || up.flush.isSome || up.allocClear.isSome) = false ∧
    (∀ a < 6, (up.area a).service = .dormant) ∧ (∀ l ∈ ovLines, (up.ov l).state = .idle) ∧
    (up.ov .evac).latch = false := by decide

theorem witness_ZoneAndProvingRequestsAreTaken :
    let testing := up.modZone 15 fun r => { r with current := .test }
    let locked := { up with proving := { up.proving with state := .locked, assignment := some (15, 63) } }
    up.quiet ∧ up.open_ (req []) ∧ 4 ≤ (4 : Byte).toNat ∧
    [Mode.off, .quiet, .live, .test][(3 : Byte).toNat]? = some .test ∧ 16 ≤ (16 : Byte).toNat ∧
    ((testing.zone 15).current = .test ∧ (testing.zone 15).phase = .steady) ∧
    (16 ≤ (254 : Byte).toNat ∧ (254 : Byte).toNat ≠ 255) ∧ (255 : Byte).toNat = 255 ∧
    ((15 : Byte).toNat < 16 ∧ (63 : Byte).toNat < 64) ∧ locked.proving.assignment = some (15, 63) ∧
    locked.proving.state = .locked ∧ up.proving.assignment ≠ some (15, 63) := by decide

theorem witness_OverrideRequestsAreTaken :
    let waiting := up.modOv .o4 fun r => { r with latch := true, state := .requesting }
    let enabled := { heldBy up .o4 .active (.running 1) with overrideEnable := true }
    (up.quiet ∧ up.admits (req []) up.unitKey ∧
      (State.reset.save.isSome || State.reset.load.isSome) = true ∧
      (up.save.isSome || up.load.isSome) = false ∧ (4 : Byte).toNat < 5 ∧ ¬ (5 : Byte).toNat < 5 ∧
      ((23 : Byte).toNat < 24 ∨ (23 : Byte) = 255) ∧ ¬ ((24 : Byte).toNat < 24 ∨ (24 : Byte) = 255) ∧
      OvLine.o4 ∈ oLines ∧ OvLine.o4.code = (4 : Byte).toNat ∧ (waiting.ov .o4).latch = true ∧
      (waiting.ov .o4).state = .requesting) ∧
    2 ≤ (2 : Byte).toNat ∧ up.overrideEnable = false ∧ enabled.quiet ∧ enabled.overrideEnable = true ∧
    up.open_ (req []) ∧ 5 ≤ (5 : Byte).toNat ∧ (up.ov .o4).state = .idle ∧
    (enabled.ov .o4).state = .active := by decide

theorem witness_EvacClearAndStandbyAreTaken :
    let set (state : OverrideState) (sample : Bool) := up.modOv .evac fun r =>
      { r with latch := true, state := state, sample := sample }
    up.quiet ∧ up.admits (req []) up.unitKey ∧ ((set .active true).ov .evac).sample = true ∧
    (up.ov .evac).latch = false ∧ ((set .active false).ov .evac).latch = true ∧
    ((set .active false).ov .evac).state = .active ∧ ((set .requesting false).ov .evac).state = .requesting ∧
    (set .requesting false).holder ≠ some .evac ∧ ((serving up 5).area 5).service = .inService ∧
    (∀ a < 6, (up.area a).service = .dormant) ∧ (∀ l ∈ ovLines, (up.ov l).state = .idle) ∧
    up.open_ (req []) := by decide

theorem witness_LinkSettingsAreTaken :
    up.quiet ∧ up.open_ (req [64]) ∧ up.admits (req []) up.unitKey ∧
    ((64 : Byte).toNat = 32 ∨ (64 : Byte).toNat = 64) ∧ up.port.depth ≠ (64 : Byte).toNat ∧
    up.port.depth = (32 : Byte).toNat ∧ ¬ ((33 : Byte).toNat = 32 ∨ (33 : Byte).toNat = 64) ∧
    (req (List.replicate 8 0xFF)).body.length = 8 := by decide

theorem witness_SlotMapIsCheckedThenInstalled :
    let ok (e : Byte × Byte) : Bool := decide (e.1.toNat < 41) && (decide (e.2.toNat < 64) || e.2 == 255)
    up.quiet ∧ up.admits (req []) up.unitKey ∧ up.slotMap.positions.length = 24 ∧
    up.slotMap.zones.length = 16 ∧ up.channels.length = 25 ∧
    (State.reset.save.isSome || State.reset.load.isSome) = true ∧
    (up.save.isSome || up.load.isSome) = false ∧ ok (40, 63) = true ∧ ok (0, 255) = true ∧
    ok (41, 0) = false ∧ ok (0, 64) = false ∧
    (up.slotMap.zones.getD 0 none = some 32 ∧ up.slotMap.zones.getD 15 none = some 47) ∧
    up.slotMap.zones.Nodup := by decide

theorem witness_ResetsReachWhatTheySelect :
    let evac := up.modOv .evac fun r => { r with latch := true }
    up.quiet ∧ up.admits (req [7]) up.unitKey ∧ up.areas.length = 6 ∧ up.channels.length = 25 ∧
    up.lines.length = 7 ∧ up.zones.length = 16 ∧ 8 ≤ (8 : Byte).toNat ∧ (7 : Byte).toNat < 8 ∧
    (State.reset.save.isSome || State.reset.load.isSome) = true ∧
    (up.save.isSome || up.load.isSome) = false ∧ up.audioReset = none ∧
    ({ up with audioReset := some ⟨32, false⟩ } : State).audioReset ≠ none ∧
    ({ up with audioReset := some ⟨32, false⟩ } : State).admits (req [7]) up.unitKey ∧ (evac.ov .evac).latch = true ∧
    (∀ l ∈ ovLines, (up.ov l).state = .idle) ∧ (up.ov .evac).latch = false ∧
    ((1 : Byte).getLsbD 0 ∧ (2 : Byte).getLsbD 1 ∧ (4 : Byte).getLsbD 2) := by decide

theorem witness_ImageRequestsStartTheirPasses :
    let resetting := { up with audioReset := some ⟨32, false⟩ }
    up.quiet ∧ up.admits (req []) up.unitKey ∧ (State.reset.save.isSome || State.reset.load.isSome) = true ∧
    (up.save.isSome || up.load.isSome) = false ∧
    (resetting.flush.isSome || resetting.allocClear.isSome || resetting.audioReset.isSome) = true ∧
    (up.flush.isSome || up.allocClear.isSome || up.audioReset.isSome) = false ∧
    ((serving up 5).area 5).service = .inService ∧ (∀ a < 6, (up.area a).service = .dormant) ∧
    (∀ l ∈ ovLines, (up.ov l).state = .idle) ∧ (up.ov .evac).latch = false := by decide

end Sys2Proof.Tests
end

section
/-! PROOF. DISCARD (R17): what it leaves of the ranks and of a dip under way for the take that it removes. -/

namespace Sys2Proof.Machine

/-! ## Facts of the state's operations -/

/-- R184: sending the notices of a command leaves every area as it is. -/
@[simp] theorem State.area_flushPosts (s : State) (a : Nat) : s.flushPosts.area a = s.area a := by
  rw [s.flushPosts_frame]
  rfl

/-- Updates that each leave the areas leave them one after another. -/
theorem forEach_areas (l : List Nat) (f : Nat → State → State) (hf : ∀ n t, (f n t).areas = t.areas)
    (s : State) : (forEach l f s).areas = s.areas := by
  induction l generalizing s with
  | nil => rfl
  | cons n l ih => exact (ih (f n s)).trans (hf n s)

/-- An area with a transition on its record is one of the table. -/
theorem State.lt_of_transition {s : State} {b : Nat} {t : Transition} (h : (s.area b).transition = some t) :
    b < s.areas.length := by
  by_contra hb
  rw [State.area, List.getD_eq_default _ _ (not_lt.mp hb)] at h
  cases h

/-! ## What the request engine makes of a DISCARD -/

/-- R177: a request that finds the engine open with another key than the one it is checked against is refused for
its key. -/
theorem State.request_keyRefused (s : State) (kind : Nat) (p : Packet) (lengthOk : List Byte → Bool)
    (key : State → Packet → Key) (monitor : Bool) (act : State → Packet → Verdict) (h : s.open_ p)
    (hl : lengthOk p.body = true) (h0 : key s p ≠ 0) (hk : key s p ≠ p.key) :
    s.request kind p lengthOk key monitor act = s.keyRefused kind p := by
  obtain ⟨hd, hb⟩ := h
  have hkey : keyAccepts (key s p) p.key = false := by
    rw [keyAccepts, beq_false_of_ne h0, beq_false_of_ne hk, Bool.or_self]
  simp [State.request, hd, hl, hb, hkey]

/-- The area that a body of one byte names. -/
theorem byteAt_singleton {body : List Byte} {a : Byte} (h : body = [a]) : byteAt body 0 = a.toNat := by
  subst h
  rfl

/-- R22, R178: a request that names an area is checked against its live key. -/
theorem State.byAreaKey_of_lt (s : State) {p : Packet} (h : byteAt p.body 0 < 6) :
    s.byAreaKey p = (s.area (byteAt p.body 0)).live.areaKey := if_pos h

/-- R178: a request that names no area passes the check of its key. -/
theorem State.byAreaKey_of_ge (s : State) {p : Packet} (h : 6 ≤ byteAt p.body 0) : s.byAreaKey p = 0 :=
  if_neg (not_lt.mpr h)

/-- R177: in a quiet state DISCARD is its request alone. -/
theorem exec_discard_quiet (s : State) (p : Packet) (h : s.quiet) :
    exec (.discard p) s = .next (s.onDiscard p).flushPosts :=
  congrArg Host.Outcome.next (s.powerOn_quiet h fun t => t.onDiscard p)

/-- R177 step 7: an admitted DISCARD of one byte is answered with the plan store's verdict. -/
theorem exec_discard_admitted (s : State) (p : Packet) (a : Byte) (hq : s.quiet) (hb : p.body = [a])
    (ha : s.admits p (s.byAreaKey p)) :
    exec (.discard p) s =
      State.answer (s.discardPlan p).1 8 p (s.discardPlan p).2.1 (s.discardPlan p).2.2 := by
  rw [exec_discard_quiet s p hq, State.onDiscard,
    s.request_admitted 8 p (exactly 1) State.byAreaKey false State.discardPlan ha (by simp [exactly, hb])]

/-- R17: the plan store's verdict where the request names an area. -/
theorem State.discardPlan_of_lt (s : State) {p : Packet} (h : byteAt p.body 0 < 6) :
    s.discardPlan p = ((s.withdrawTake (byteAt p.body 0)).modArea (byteAt p.body 0) fun r =>
      { r with staged := r.live, stagedState := .clean }, .done, []) := if_pos h

/-- R17: the plan store's verdict where it names none. -/
theorem State.discardPlan_of_ge (s : State) {p : Packet} (h : 6 ≤ byteAt p.body 0) :
    s.discardPlan p = s.refuseRange 0 := if_neg (not_lt.mpr h)

/-- R179: DISCARD of an area that is not there is out of range. -/
theorem exec_discard_range (s : State) (p : Packet) (a : Byte) (hq : s.quiet) (hb : p.body = [a])
    (ha : 6 ≤ a.toNat) (ho : s.open_ p) : exec (.discard p) s = s.answer 8 p .refusedRange [f1 0] := by
  have hi : 6 ≤ byteAt p.body 0 := by rwa [byteAt_singleton hb]
  rw [exec_discard_admitted s p a hq hb ⟨ho, .inl (s.byAreaKey_of_ge hi)⟩, s.discardPlan_of_ge hi]
  rfl

/-- R178: DISCARD under another key than the live key of its area is refused, counted and noticed. -/
theorem exec_discard_key (s : State) (p : Packet) (a : Byte) (hq : s.quiet) (hb : p.body = [a])
    (ha : a.toNat < 6) (ho : s.open_ p) (h0 : (s.area a.toNat).live.areaKey ≠ 0)
    (hk : (s.area a.toNat).live.areaKey ≠ p.key) :
    exec (.discard p) s = State.answer (State.post
      { s with status := { s.status with keyFaults := min (s.status.keyFaults + 1) 65535 } }
      .engine .keyFault p.source.toNat [f2 8]) 8 p .refusedKey [] := by
  have hkey : s.byAreaKey p = (s.area a.toNat).live.areaKey := by
    rw [s.byAreaKey_of_lt (by rwa [byteAt_singleton hb]), byteAt_singleton hb]
  rw [exec_discard_quiet s p hq, State.onDiscard,
    s.request_keyRefused 8 p (exactly 1) State.byAreaKey false State.discardPlan ho (by simp [exactly, hb])
      (hkey ▸ h0) (hkey ▸ hk)]
  rfl

/-! ## The take that DISCARD removes -/

/-- R17: the transition x is a dip that has not reached its midpoint, for a take that area a holds. -/
def State.losesTake (s : State) (a : Nat) (x : Transition) : Bool :=
  (s.area a).stagedState == .held && x.kind == .dip a && !x.midDone

/-- R17: the mark of a dip under way for the take of area a that has not reached its midpoint. -/
theorem Transition.withdraw_eq (a : Nat) (x : Transition) :
    x.withdraw a = { x with withdrawn := x.withdrawn || x.kind == .dip a && !x.midDone } := by
  unfold Transition.withdraw
  split
  · next h => simp [h]
  · next h =>
    have hnot : (x.kind == .dip a && !x.midDone) = false := by simpa using h
    rw [hnot, Bool.or_false]

/-- R17: removing the take of area a marks the dips under way for it, and nothing else. -/
theorem State.withdrawTake_eq (s : State) (a : Nat) :
    s.withdrawTake a = { s with areas := s.areas.map fun r => { r with transition := r.transition.map fun x =>
      { x with withdrawn := x.withdrawn || s.losesTake a x } } } := by
  unfold State.withdrawTake State.losesTake State.holdsTake
  cases (s.area a).stagedState == .held
  · simp
  · simp [funext (Transition.withdraw_eq a)]

/-- R17: where no take is held there is none to remove. -/
theorem State.withdrawTake_of_not_held (s : State) (a : Nat) (h : s.holdsTake a = false) :
    s.withdrawTake a = s := by
  simp [State.withdrawTake, h]

/-- R17: DISCARD removes the take of its area and copies the live rank over the staged rank. -/
theorem exec_discard_area (s : State) (p : Packet) (a : Byte) (hq : s.quiet) (hb : p.body = [a])
    (ha : a.toNat < 6) (hk : s.admits p (s.area a.toNat).live.areaKey) :
    exec (.discard p) s = State.answer ((s.withdrawTake a.toNat).modArea a.toNat fun r =>
      { r with staged := r.live, stagedState := .clean }) 8 p .done [] := by
  have hi := byteAt_singleton hb
  have hlt : byteAt p.body 0 < 6 := by rwa [hi]
  rw [exec_discard_admitted s p a hq hb (by rwa [s.byAreaKey_of_lt hlt, hi]), s.discardPlan_of_lt hlt, hi]

/-- R14, R17: copying the live rank over an equal staged rank of a CLEAN area changes nothing. -/
theorem State.modArea_clean (s : State) (a : Nat) (hc : (s.area a).stagedState = .clean)
    (he : (s.area a).staged = (s.area a).live) :
    (s.modArea a fun r => { r with staged := r.live, stagedState := .clean }) = s := by
  have hsame : s.areas.modify a (fun r => { r with staged := r.live, stagedState := .clean }) = s.areas := by
    refine List.ext_getElem (by simp) fun i _ hi => ?_
    rw [List.getElem_modify]
    split
    · next h =>
      subst h
      have harea : s.area a = s.areas[a] := by simp [State.area, hi]
      rw [← harea, ← hc]
      exact congrArg (fun q => { s.area a with staged := q }) he.symm
    · rfl
  simp [State.modArea, hsame]

/-! ## The midpoint of a dip that has lost its take (R92, R94) -/

/-- R92, R17: the midpoint of a dip whose take is not held, or was withdrawn, changes among the areas its own
record alone, whose midpoint is then done. -/
theorem State.dipMidpoint_areas_of_lost (s : State) (a b : Nat) (t : Transition)
    (ht : (s.area b).transition = some t) (hk : t.kind = .dip a) (hd : t.midpointDue = true)
    (hl : (s.holdsTake a && !t.withdrawn) = false) :
    ∃ zs, (s.dipMidpoint b).areas = s.areas.modify b fun r =>
      { r with transition := some { t with zones := zs, midDone := true } } := by
  have hformed : (t.zones.filter fun f => (s.midpointTap false f).2) = [] := by
    rw [List.filter_eq_nil_iff]
    intro f _
    unfold State.midpointTap
    split <;> simp
  refine ⟨t.zones.map fun f => { f with newTap := (s.midpointTap false f).1 }, ?_⟩
  simp only [State.dipMidpoint, ht, hd, hk, hl, if_true, Bool.false_eq_true, if_false, hformed,
    List.map_nil, State.dropPaths, State.mapZones_areas]
  refine (forEach_areas _ _ (fun z w => ?_) _).trans rfl
  split <;> split <;> rfl

/-- R17, R94: at such a midpoint every area keeps both ranks, its staged state and all else but the transition on
the dip's own record, which goes on. -/
theorem State.dipMidpoint_area_of_lost (s : State) (a b : Nat) (t : Transition)
    (ht : (s.area b).transition = some t) (hk : t.kind = .dip a) (hd : t.midpointDue = true)
    (hl : (s.holdsTake a && !t.withdrawn) = false) :
    ∃ zs, ∀ c, (s.dipMidpoint b).area c = { s.area c with
      transition :=
        if c = b then some { t with zones := zs, midDone := true } else (s.area c).transition } := by
  obtain ⟨zs, hareas⟩ := s.dipMidpoint_areas_of_lost a b t ht hk hd hl
  refine ⟨zs, fun c => ?_⟩
  rw [State.area, hareas]
  by_cases h : c = b
  · subst h
    rw [if_pos rfl, getD_modify_same _ _ _ _ (State.lt_of_transition ht)]
    rfl
  · rw [if_neg h, getD_modify_other _ _ _ _ _ (Ne.symm h)]
    rfl

/-- Settles O49: the verdict of the plan store on DISCARD, clause by clause of R177 and R178, and the midpoint of a
dip that has lost its take, which touches its own record alone. -/
theorem discardRestoresTheLiveRank : Obligations.DiscardRestoresTheLiveRank := by
  unfold Obligations.DiscardRestoresTheLiveRank
  refine ⟨fun s p a hq hb => ⟨exec_discard_range s p a hq hb, fun ha hk => ⟨?_, fun hc he => ?_⟩,
    exec_discard_key s p a hq hb⟩, fun s b a tr hq ht hk hp hm hl => ?_⟩
  · rw [exec_discard_area s p a hq hb ha hk, s.withdrawTake_eq]
    rfl
  · have hnot : s.holdsTake a.toNat = false := by simp [State.holdsTake, hc]
    rw [exec_discard_area s p a hq hb ha hk, s.withdrawTake_of_not_held _ hnot, s.modArea_clean _ hc he]
  · have hdue : tr.midpointDue = true := by simp [Transition.midpointDue, hk, hp, hm]
    have hlost : (s.holdsTake a && !tr.withdrawn) = false := by
      rcases hl with hl | hl <;> simp [State.holdsTake, hl]
    have hexec : exec (.dipMidpoint b) s = .next (s.dipMidpoint b).flushPosts :=
      congrArg Host.Outcome.next (s.boundaryEvent_quiet hq.1 _ _ (by
        simp [State.atBoundary, hq.2, ht, hdue]))
    obtain ⟨zs, harea⟩ := s.dipMidpoint_area_of_lost a b tr ht hk hdue hlost
    refine ⟨_, { tr with zones := zs, midDone := true }, hexec, fun c => ?_, ?_, rfl, rfl⟩
    · rw [State.area_flushPosts, harea c]
      exact ⟨rfl, rfl⟩
    · rw [State.area_flushPosts, harea b]
      exact if_pos rfl

end Sys2Proof.Machine
end

section
/-! PROOF. The open microphones (R49, R50): their count and its attenuation. -/

namespace Sys2Proof.Machine

/-! ## The count (R49) -/

/-- A gate that is not CLOSED is OPEN or in HOLD. -/
theorem Gate.ne_closed (g : Gate) : (g != .closed) = (g == .opened || g == .hold) := by
  cases g <;> rfl

/-- R49: a record counts as an open microphone. -/
def MemberRec.openSpeech (present : Nat → Bool) (r : MemberRec) : Bool :=
  r.kind == .speech && present r.position && (r.gate == .opened || r.gate == .hold)

/-- R49: a record is a present member of the ensemble. -/
def MemberRec.inChoir (present : Nat → Bool) (r : MemberRec) : Bool :=
  r.kind == .ensemble && present r.position

/-- R49: the count is that of the open microphones, one more with a choir, and 1 at the least. -/
theorem nomOf_eq (present : Nat → Bool) (rs : List MemberRec) :
    nomOf present rs = max 1 (rs.countP (MemberRec.openSpeech present) +
      if rs.any (MemberRec.inChoir present) then 1 else 0) := by
  rw [nomOf, List.countP_eq_length_filter]
  simp only [Gate.ne_closed]
  rfl

/-- R49: no record is both an open microphone and one of the choir. -/
theorem MemberRec.inChoir_of_openSpeech {present : Nat → Bool} {r : MemberRec}
    (h : r.openSpeech present = true) : r.inChoir present = false := by
  have hk : r.kind = .speech := by
    simp only [MemberRec.openSpeech, Bool.and_eq_true, beq_iff_eq] at h
    exact h.1.1
  simp [MemberRec.inChoir, hk]

/-- R49: the open microphones and a choir are no more than the records. -/
theorem openSpeech_add_choir_le (present : Nat → Bool) (rs : List MemberRec) :
    (rs.countP (MemberRec.openSpeech present) +
      if rs.any (MemberRec.inChoir present) then 1 else 0) ≤ rs.length := by
  have hsum := List.length_eq_countP_add_countP (MemberRec.inChoir present) (l := rs)
  have hspeech : rs.countP (MemberRec.openSpeech present) ≤
      rs.countP (fun r => decide ¬ r.inChoir present = true) :=
    List.countP_mono_left fun r _ h => by simp [MemberRec.inChoir_of_openSpeech h]
  split
  · next h =>
    have hchoir : 0 < rs.countP (MemberRec.inChoir present) := by
      simpa [List.countP_pos_iff] using h
    omega
  · omega

/-! ## The attenuation (R50) -/

/-- R50: the tenth powers between which the 80th power of n lies give the rounding of 40 log10 n. -/
theorem round_forty_logb_eq {n k : Nat} (hn : 0 < n) (hlow : 10 ^ (2 * k) ≤ n ^ 80 * 10)
    (hhigh : n ^ 80 < 10 ^ (2 * k + 1)) : ⌊40 * Real.logb 10 (n : ℝ) + 1 / 2⌋ = (k : Int) := by
  have hn' : (0 : ℝ) < n := by exact_mod_cast hn
  have hbase : (1 : ℝ) < 10 := by norm_num
  have hpow (m : Nat) : Real.logb 10 ((10 : ℝ) ^ m) = m := by
    rw [Real.logb_pow, Real.logb_self_eq_one hbase, mul_one]
  have hroot : Real.logb 10 ((n : ℝ) ^ 80) = 80 * Real.logb 10 n := by
    rw [Real.logb_pow]
    norm_num
  have hle : ((2 * k : Nat) : ℝ) ≤ 80 * Real.logb 10 n + 1 := by
    have hreal : (10 : ℝ) ^ (2 * k) ≤ (n : ℝ) ^ 80 * 10 := by exact_mod_cast hlow
    have hlog := Real.logb_le_logb_of_le hbase (by positivity) hreal
    rwa [hpow, Real.logb_mul (by positivity) (by norm_num), hroot, Real.logb_self_eq_one hbase] at hlog
  have hlt : 80 * Real.logb 10 n < ((2 * k + 1 : Nat) : ℝ) := by
    have hreal : (n : ℝ) ^ 80 < (10 : ℝ) ^ (2 * k + 1) := by exact_mod_cast hhigh
    have hlog := Real.logb_lt_logb hbase (by positivity) hreal
    rwa [hpow, hroot] at hlog
  push_cast at hle hlt
  rw [Int.floor_eq_iff]
  push_cast
  constructor <;> linarith

/-- R50: each value of the table lies between its tenth powers. -/
theorem attenuation_bounds : ∀ n : Nat, n < 25 → 1 ≤ n →
    attenuation n = (attenuation n).toNat ∧ 10 ^ (2 * (attenuation n).toNat) ≤ n ^ 80 * 10 ∧
      n ^ 80 < 10 ^ (2 * (attenuation n).toNat + 1) := by
  decide

/-- R50: the table holds round(40 log10 NOM). -/
theorem attenuation_eq_round {n : Nat} (h1 : 1 ≤ n) (h : n ≤ 24) :
    attenuation n = ⌊40 * Real.logb 10 (n : ℝ) + 1 / 2⌋ := by
  obtain ⟨hnat, hlow, hhigh⟩ := attenuation_bounds n (by omega) h1
  rw [round_forty_logb_eq h1 hlow hhigh]
  exact hnat

/-! ## The target (R51) -/

/-- R51: the target gain is the trim less the attenuations, in the range of a gain. -/
theorem MemberRec.target_eq (r : MemberRec) (off : Int) (n : Nat) :
    r.target off n = max (-480) (min 96
      (r.trim - (if r.kind = .speech ∧ r.gate = .closed then off else 0) - attenuation n)) := by
  unfold MemberRec.target clampInt
  split <;> simp

/-- Settles O10: the count is bounded by the records, each of which counts once, and the table by the powers of
ten about its entries. -/
theorem openMicrophonesShareTheGain : Obligations.OpenMicrophonesShareTheGain := by
  unfold Obligations.OpenMicrophonesShareTheGain
  refine ⟨fun present rs hlen => ?_, fun n => attenuation_eq_round, MemberRec.target_eq⟩
  have hcount := openSpeech_add_choir_le present rs
  rw [nomOf_eq]
  refine ⟨le_max_left _ _, by omega, ?_⟩
  simp only [MemberRec.inChoir, List.any_eq_true, Bool.and_eq_true, beq_iff_eq]
  rfl

end Sys2Proof.Machine
end

section
/-! PROOF. One update of a mixer's records (R43 to R48, R51) with no event taken early. -/

namespace Sys2Proof.Machine

/-! ## Levels and floors (R45, R46) -/

/-- R45: the smoothed level stays within the range of a level. -/
theorem smooth_range {rate level s : Int} (hr : 1 ≤ rate) (hl : -480 ≤ level) (hl' : level ≤ 0) (hs : s ≤ 0) :
    -480 ≤ smooth rate level s ∧ smooth rate level s ≤ 0 := by
  unfold smooth
  split <;> omega

namespace MemberRec

/-- R46: a level under the floor takes the floor with it. -/
theorem floorStep_below {r : MemberRec} (g : Gate) (h : r.s < r.f) :
    r.floorStep g = { r with f := max (-480) (min (-40) r.s), rise := 0 } := if_pos h

/-- R46: a closed gate counts toward the rise. -/
theorem floorStep_counts {r : MemberRec} (h : r.f ≤ r.s) (hr : r.rise < 249) :
    r.floorStep .closed = { r with rise := r.rise + 1 } := by
  rw [floorStep, if_neg (not_lt.mpr h), if_pos rfl, if_neg (by omega)]

/-- R46: the 250th count raises the floor. -/
theorem floorStep_rises {r : MemberRec} (h : r.f ≤ r.s) (hr : 249 ≤ r.rise) :
    r.floorStep .closed = { r with f := min (-40) (r.f + 1), rise := 0 } := by
  rw [floorStep, if_neg (not_lt.mpr h), if_pos rfl, if_pos (by omega), raiseFloor]

/-- R46: under a gate that is not CLOSED the floor rests. -/
theorem floorStep_rests {r : MemberRec} {g : Gate} (h : r.f ≤ r.s) (hg : g ≠ .closed) : r.floorStep g = r := by
  rw [floorStep, if_neg (not_lt.mpr h), if_neg hg]

/-- R46: floor and rise after the floor step, by the level and the gate before it. -/
theorem floorStep_spec (r : MemberRec) (g : Gate) :
    (r.s < r.f → (r.floorStep g).f = max (-480) (min (-40) r.s) ∧ (r.floorStep g).rise = 0) ∧
    (r.f ≤ r.s → g = .closed → r.rise < 249 → (r.floorStep g).f = r.f ∧ (r.floorStep g).rise = r.rise + 1) ∧
    (r.f ≤ r.s → g = .closed → 249 ≤ r.rise →
      (r.floorStep g).f = min (-40) (r.f + 1) ∧ (r.floorStep g).rise = 0) ∧
    (r.f ≤ r.s → g ≠ .closed → (r.floorStep g).f = r.f ∧ (r.floorStep g).rise = r.rise) := by
  refine ⟨fun h => ?_, fun h hg hr => ?_, fun h hg hr => ?_, fun h hg => ?_⟩
  · rw [floorStep_below g h]
    exact ⟨rfl, rfl⟩
  · rw [hg, floorStep_counts h hr]
    exact ⟨rfl, rfl⟩
  · rw [hg, floorStep_rises h hr]
    exact ⟨rfl, rfl⟩
  · rw [floorStep_rests h hg]
    exact ⟨rfl, rfl⟩

/-- R46: the floor step moves the floor and its count alone. -/
theorem floorStep_frame (r : MemberRec) (g : Gate) :
    r.floorStep g = { r with f := (r.floorStep g).f, rise := (r.floorStep g).rise } := by
  rcases lt_or_ge r.s r.f with h | h
  · rw [floorStep_below g h]
  · by_cases hg : g = .closed
    · subst hg
      rcases lt_or_ge r.rise 249 with hr | hr
      · rw [floorStep_counts h hr]
      · rw [floorStep_rises h hr]
    · rw [floorStep_rests h hg]

/-! ## Gates (R47, R48) -/

/-- R47: the open condition as its two comparisons. -/
theorem opens_iff (r : MemberRec) (margin window top : Int) :
    r.opens margin window top = true ↔ r.f + margin ≤ r.s ∧ top - window ≤ r.s := by
  simp [opens]

/-- R48: a CLOSED gate opens on the open condition. -/
theorem gateStep_closed {r : MemberRec} (h : r.gate = .closed) (holds : Bool) (n : Nat) :
    r.gateStep holds n = { r with gate := if holds then .opened else .closed } := by
  obtain ⟨⟩ := r
  subst h
  cases holds <;> rfl

/-- R48: an OPEN gate goes into HOLD where the open condition ends. -/
theorem gateStep_opened {r : MemberRec} (h : r.gate = .opened) (holds : Bool) (n : Nat) :
    r.gateStep holds n =
      { r with gate := if holds then .opened else .hold, hold := if holds then r.hold else n } := by
  obtain ⟨⟩ := r
  subst h
  cases holds <;> rfl

/-- R48: a gate in HOLD opens again, or counts down and closes. -/
theorem gateStep_hold {r : MemberRec} (h : r.gate = .hold) (holds : Bool) (n : Nat) :
    r.gateStep holds n =
      { r with
        gate := if holds then .opened else if r.hold ≤ 1 then .closed else .hold
        hold := if holds ∨ r.hold ≤ 1 then 0 else r.hold - 1 } := by
  obtain ⟨⟩ := r
  subst h
  cases holds
  · simp only [gateStep, closeGate, Bool.false_eq_true, if_false, false_or]
    split <;> rfl
  · rfl

/-- R48: the gate step moves the gate and its hold count alone. -/
theorem gateStep_frame (r : MemberRec) (holds : Bool) (n : Nat) :
    r.gateStep holds n = { r with gate := (r.gateStep holds n).gate, hold := (r.gateStep holds n).hold } := by
  cases h : r.gate
  case closed => rw [gateStep_closed h]
  case opened => rw [gateStep_opened h]
  case hold => rw [gateStep_hold h]

/-- R46, R48: what floor and gate steps leave of the parts that later steps use. -/
@[simp] theorem floorStep_position (r : MemberRec) (g : Gate) : (r.floorStep g).position = r.position := by
  rw [floorStep_frame]
@[simp] theorem floorStep_kind (r : MemberRec) (g : Gate) : (r.floorStep g).kind = r.kind := by
  rw [floorStep_frame]
@[simp] theorem gateStep_position (r : MemberRec) (holds : Bool) (n : Nat) :
    (r.gateStep holds n).position = r.position := by rw [gateStep_frame]
@[simp] theorem floorStep_gate (r : MemberRec) (g : Gate) : (r.floorStep g).gate = r.gate := by rw [floorStep_frame]
@[simp] theorem floorStep_hold (r : MemberRec) (g : Gate) : (r.floorStep g).hold = r.hold := by rw [floorStep_frame]

/-! ## Gains (R51) -/

/-- R51: the target gain as the trim less the attenuations. -/
theorem gainStep_t (r : MemberRec) (off : Int) (nom : Nat) :
    (r.gainStep off nom).t = max (-480) (min 96
      (r.trim - (if r.kind = .speech ∧ r.gate = .closed then off else 0) - attenuation nom)) :=
  r.target_eq off nom

/-- R51: the applied gain of a new record is its target. -/
theorem gainStep_g_of_new {r : MemberRec} (off : Int) (nom : Nat) (h : r.isNew = true) :
    (r.gainStep off nom).g = (r.gainStep off nom).t := if_pos h

/-- R51: any other applied gain moves toward its target. -/
theorem gainStep_g_of_kept {r : MemberRec} (off : Int) (nom : Nat) (h : r.isNew = false) :
    (r.gainStep off nom).g = slew r.g (r.gainStep off nom).t := if_neg (by simp [h])

/-- R51: by at most 8 qdB up and 2 qdB down. -/
theorem slew_cases (g t : Int) :
    (g < t → slew g t = min t (g + 8)) ∧ (t < g → slew g t = max t (g - 2)) ∧ (g = t → slew g t = g) := by
  unfold slew
  omega

/-! ## One record in an update (R43) -/

/-- R45, R46, R48: steps 1 to 3 of R43 for a present member, with no event taken early, from the speech top. -/
def stepped (plan : Plan) (level top : Int) (r : MemberRec) : MemberRec :=
  let v : MemberRec := { r with s := smooth plan.releaseRate level r.s }
  if r.kind = .speech then
    (v.floorStep r.gate).gateStep ((v.floorStep r.gate).opens plan.openMargin plan.window top)
      plan.gateHold.toNat
  else v

/-- R43: the whole update of one record with no event taken early, from the speech top and the count of open
microphones that it finds. -/
def mixed (plan : Plan) (level : Nat → Int) (present : Nat → Bool) (top : Int) (nom : Nat) (r : MemberRec) :
    MemberRec :=
  if present r.position then (r.stepped plan (level r.position) top).gainStep plan.offAttenuation nom
  else r.absent

/-- R45, R46, R48: a step moves level, floor and gate alone. -/
theorem stepped_frame (plan : Plan) (level top : Int) (r : MemberRec) :
    r.stepped plan level top =
      { r with
        s := smooth plan.releaseRate level r.s
        f := (r.stepped plan level top).f
        rise := (r.stepped plan level top).rise
        gate := (r.stepped plan level top).gate
        hold := (r.stepped plan level top).hold } := by
  unfold stepped
  split
  · rw [gateStep_frame, floorStep_frame]
  · rfl

/-- R46, R48: of a member of the ensemble the level alone. -/
theorem stepped_of_ensemble {r : MemberRec} (plan : Plan) (level top : Int) (hk : r.kind = .ensemble) :
    r.stepped plan level top = { r with s := smooth plan.releaseRate level r.s } := by
  simp [stepped, hk]

/-- R46: floor and rise of a SPEECH member. -/
theorem stepped_floor {r : MemberRec} (plan : Plan) (level top : Int) (hk : r.kind = .speech) :
    let w := r.stepped plan level top
    (w.s < r.f → w.f = max (-480) (min (-40) w.s) ∧ w.rise = 0) ∧
    (r.f ≤ w.s → r.gate = .closed → r.rise < 249 → w.f = r.f ∧ w.rise = r.rise + 1) ∧
    (r.f ≤ w.s → r.gate = .closed → 249 ≤ r.rise → w.f = min (-40) (r.f + 1) ∧ w.rise = 0) ∧
    (r.f ≤ w.s → r.gate ≠ .closed → w.f = r.f ∧ w.rise = r.rise) := by
  rw [stepped, if_pos hk, gateStep_frame, floorStep_frame]
  exact floorStep_spec { r with s := smooth plan.releaseRate level r.s } r.gate

/-- R51: the gain step leaves level, floor and gate. -/
theorem gainStep_frame (r : MemberRec) (off : Int) (nom : Nat) :
    r.gainStep off nom =
      { r with t := (r.gainStep off nom).t, g := (r.gainStep off nom).g, isNew := false } := rfl

/-- R43: the update of a present member. -/
theorem mixed_of_present {r : MemberRec} {present : Nat → Bool} (plan : Plan) (level : Nat → Int) (top : Int)
    (nom : Nat) (h : present r.position = true) :
    r.mixed plan level present top nom =
      (r.stepped plan (level r.position) top).gainStep plan.offAttenuation nom := if_pos h

/-- R44: the update of an absent member. -/
theorem mixed_of_absent {r : MemberRec} {present : Nat → Bool} (plan : Plan) (level : Nat → Int) (top : Int)
    (nom : Nat) (h : present r.position = false) : r.mixed plan level present top nom = r.absent :=
  if_neg (by simp [h])

/-- R42: an update keeps what the plans say of a record. -/
theorem mixed_identity (plan : Plan) (level : Nat → Int) (present : Nat → Bool) (top : Int) (nom : Nat)
    (r : MemberRec) :
    (r.mixed plan level present top nom).position = r.position ∧
    (r.mixed plan level present top nom).kind = r.kind ∧
    (r.mixed plan level present top nom).trim = r.trim ∧
    (r.mixed plan level present top nom).isNew = false := by
  unfold mixed
  split
  · rw [gainStep_frame, stepped_frame]
    exact ⟨rfl, rfl, rfl, rfl⟩
  · exact ⟨rfl, rfl, rfl, rfl⟩

section
variable {r u : MemberRec} {plan : Plan} {level : Nat → Int} {present : Nat → Bool} {top : Int} {nom : Nat}

/-- R43, R51: target and applied gain of a present member. -/
theorem mixed_gain (hu : u = r.mixed plan level present top nom) (hp : present r.position = true) :
    u.t = max (-480) (min 96 (r.trim -
      (if r.kind = .speech ∧ u.gate = .closed then (plan.offAttenuation : Int) else 0) - attenuation nom)) ∧
    (r.isNew = true → u.g = u.t) ∧
    (r.isNew = false → (r.g < u.t → u.g = min u.t (r.g + 8)) ∧ (u.t < r.g → u.g = max u.t (r.g - 2)) ∧
      (r.g = u.t → u.g = r.g)) := by
  generalize hw : r.stepped plan (level r.position) top = w
  have hstep : u = w.gainStep plan.offAttenuation nom := by rw [hu, mixed_of_present _ _ _ _ hp, hw]
  obtain ⟨hkind, htrim, hnew, hg⟩ : w.kind = r.kind ∧ w.trim = r.trim ∧ w.isNew = r.isNew ∧ w.g = r.g := by
    rw [← hw, stepped_frame]
    exact ⟨rfl, rfl, rfl, rfl⟩
  rw [← hkind, ← htrim, ← hnew, ← hg, hstep]
  refine ⟨gainStep_t .., gainStep_g_of_new _ _, fun h => ?_⟩
  rw [gainStep_g_of_kept _ _ h]
  exact slew_cases ..

/-- R44: an absent member's record. -/
theorem mixed_absent (hu : u = r.mixed plan level present top nom) (hp : present r.position = false) :
    (u.s = -480 ∧ u.gate = .closed ∧ u.hold = 0 ∧ u.f = r.f ∧ u.rise = r.rise) ∧ u.t = -480 ∧ u.g = -480 := by
  rw [hu, mixed_of_absent _ _ _ _ hp]
  exact ⟨⟨rfl, rfl, rfl, rfl, rfl⟩, rfl, rfl⟩

/-- R46, R48: floor and gate of a present member of the ensemble. -/
theorem mixed_ensemble (hu : u = r.mixed plan level present top nom) (hp : present r.position = true)
    (hk : r.kind = .ensemble) :
    u.gate = r.gate ∧ u.hold = r.hold ∧ u.f = r.f ∧ u.rise = r.rise := by
  rw [hu, mixed_of_present _ _ _ _ hp, stepped_of_ensemble _ _ _ hk]
  exact ⟨rfl, rfl, rfl, rfl⟩

/-- R43: the gain step leaves a present member's record as its level, floor and gate steps made it. -/
theorem mixed_step (hu : u = r.mixed plan level present top nom) (hp : present r.position = true) :
    let w := r.stepped plan (level r.position) top
    u.s = w.s ∧ u.f = w.f ∧ u.rise = w.rise ∧ u.gate = w.gate ∧ u.hold = w.hold := by
  rw [hu, mixed_of_present _ _ _ _ hp]
  exact ⟨rfl, rfl, rfl, rfl, rfl⟩

/-- R46: floor and rise of a present SPEECH member. -/
theorem mixed_floor (hu : u = r.mixed plan level present top nom) (hk : r.kind = .speech)
    (hp : present r.position = true) :
    (u.s < r.f → u.f = max (-480) (min (-40) u.s) ∧ u.rise = 0) ∧
    (r.f ≤ u.s → r.gate = .closed → r.rise < 249 → u.f = r.f ∧ u.rise = r.rise + 1) ∧
    (r.f ≤ u.s → r.gate = .closed → 249 ≤ r.rise → u.f = min (-40) (r.f + 1) ∧ u.rise = 0) ∧
    (r.f ≤ u.s → r.gate ≠ .closed → u.f = r.f ∧ u.rise = r.rise) := by
  obtain ⟨hs, hf, hrise, -, -⟩ := mixed_step hu hp
  rw [hs, hf, hrise]
  exact stepped_floor plan (level r.position) top hk

/-- R47, R48: gate and hold count of a present SPEECH member, by the open condition on its new level and floor. -/
theorem mixed_gate (hu : u = r.mixed plan level present top nom) (hk : r.kind = .speech)
    (hp : present r.position = true) :
    let opens := u.f + plan.openMargin ≤ u.s ∧ top - plan.window ≤ u.s
    (r.gate = .closed → u.hold = r.hold ∧ (opens → u.gate = .opened) ∧ (¬ opens → u.gate = .closed)) ∧
    (r.gate = .opened → (opens → u.gate = .opened ∧ u.hold = r.hold) ∧
      (¬ opens → u.gate = .hold ∧ u.hold = plan.gateHold.toNat)) ∧
    (r.gate = .hold → (opens → u.gate = .opened ∧ u.hold = 0) ∧
      (¬ opens → 1 < r.hold → u.gate = .hold ∧ u.hold = r.hold - 1) ∧
      (¬ opens → r.hold ≤ 1 → u.gate = .closed ∧ u.hold = 0)) := by
  obtain ⟨hs, hf, -, hgate, hhold⟩ := mixed_step hu hp
  generalize hw : floorStep { r with s := smooth plan.releaseRate (level r.position) r.s } r.gate = w at *
  have hstep : r.stepped plan (level r.position) top =
      w.gateStep (w.opens plan.openMargin plan.window top) plan.gateHold.toNat := by
    rw [stepped, if_pos hk, hw]
  obtain ⟨hs', hf'⟩ : u.s = w.s ∧ u.f = w.f := by
    rw [hs, hf, hstep, gateStep_frame]
    exact ⟨rfl, rfl⟩
  have hopens : w.opens plan.openMargin plan.window top = true ↔
      u.f + plan.openMargin ≤ u.s ∧ top - plan.window ≤ u.s := by
    rw [opens_iff, hs', hf']
  have hbefore : r.gate = w.gate ∧ r.hold = w.hold := by
    rw [← hw, floorStep_gate, floorStep_hold]
    exact ⟨rfl, rfl⟩
  simp only [← hopens, hbefore, hgate, hhold, hstep]
  refine ⟨fun h => ?_, fun h => ?_, fun h => ?_⟩
  · rw [gateStep_closed h]
    simp +contextual
  · rw [gateStep_opened h]
    simp +contextual
  · rw [gateStep_hold h]
    simp +contextual

end

/-- R45: the level of a record after its update. -/
theorem mixed_s (plan : Plan) (level : Nat → Int) (present : Nat → Bool) (top : Int) (nom : Nat) (r : MemberRec) :
    (r.mixed plan level present top nom).s =
      if present r.position then smooth plan.releaseRate (level r.position) r.s else -480 := by
  unfold mixed
  split
  · rw [gainStep_frame, stepped_frame]
  · rfl

/-- R44, R45: what steps 1 and 2 leave of kind, position and level. -/
theorem levelStep_identity (rate level : Int) (present : Bool) (r : MemberRec) :
    (r.levelStep rate level present false false).kind = r.kind ∧
    (r.levelStep rate level present false false).position = r.position ∧
    (r.levelStep rate level present false false).s = if present then smooth rate level r.s else -480 := by
  unfold levelStep
  cases present
  · exact ⟨rfl, rfl, rfl⟩
  · by_cases hk : r.kind = .speech
    · simp only [hk, and_self, if_true, Bool.false_eq_true, if_false]
      rw [floorStep_frame]
      exact ⟨rfl, rfl, rfl⟩
    · simp [hk]

/-- R43: the steps of an update, one after another over a record. -/
theorem mixed_eq_steps (plan : Plan) (level : Nat → Int) (present : Nat → Bool) (top : Int) (nom : Nat)
    (r : MemberRec) :
    r.mixed plan level present top nom =
      let a := r.levelStep plan.releaseRate (level r.position) (present r.position) false false
      let b := if a.kind = .speech ∧ present a.position = true
        then a.gateStep (a.opens plan.openMargin plan.window top) plan.gateHold.toNat else a
      if present b.position then b.gainStep plan.offAttenuation nom else b := by
  cases hp : present r.position
  · simp [mixed, levelStep, absent, hp]
  · by_cases hk : r.kind = .speech <;> simp [mixed, stepped, levelStep, hp, hk]

end MemberRec

/-! ## The speech top (R47) -/

/-- R47: the greatest level among the present SPEECH members, from a value to start with. -/
theorem speechTop_foldl_spec (present : Nat → Bool) (rs : List MemberRec) (m : Int) :
    let top := rs.foldl (fun m r => if r.kind = .speech ∧ present r.position = true then max m r.s else m) m
    m ≤ top ∧ (∀ r ∈ rs, r.kind = .speech → present r.position = true → r.s ≤ top) ∧
    (top = m ∨ ∃ r ∈ rs, r.kind = .speech ∧ present r.position = true ∧ top = r.s) := by
  induction rs generalizing m with
  | nil => simp
  | cons r rs ih =>
    obtain ⟨hm, hall, hex⟩ := ih (if r.kind = .speech ∧ present r.position = true then max m r.s else m)
    intro top
    refine ⟨?_, ?_, ?_⟩
    · refine le_trans ?_ hm
      split <;> omega
    · rw [List.forall_mem_cons]
      refine ⟨fun hk hp => le_trans ?_ hm, hall⟩
      rw [if_pos ⟨hk, hp⟩]
      exact le_max_right _ _
    · rcases hex with h | ⟨q, hq, h⟩
      · by_cases hr : r.kind = .speech ∧ present r.position = true
        · have htop := h.trans (if_pos hr)
          obtain ⟨hk, hp⟩ := hr
          rcases max_choice m r.s with hc | hc
          · exact .inl (htop.trans hc)
          · exact .inr ⟨r, List.mem_cons_self, hk, hp, htop.trans hc⟩
        · exact .inl (h.trans (if_neg hr))
      · exact .inr ⟨q, List.mem_cons_of_mem _ hq, h⟩

/-- R47: the speech top reads kind, position and level alone. -/
theorem speechTopOf_map_congr (present : Nat → Bool) (rs : List MemberRec) (f g : MemberRec → MemberRec)
    (h : ∀ r, (f r).kind = (g r).kind ∧ (f r).position = (g r).position ∧ (f r).s = (g r).s) :
    speechTopOf present (rs.map f) = speechTopOf present (rs.map g) := by
  rw [speechTopOf, speechTopOf, List.foldl_map, List.foldl_map]
  congr 1
  funext m r
  obtain ⟨hk, hp, hs⟩ := h r
  rw [hk, hp, hs]

/-! ## The update (R43) -/

/-- R43: with no event taken early an update treats each record by itself, under the top and count it finds. -/
theorem mixSteps_records (plan : Plan) (level : Nat → Int) (present : Nat → Bool) (rs : List MemberRec) :
    (mixSteps plan level present [] rs).records =
      rs.map (MemberRec.mixed plan level present (mixSteps plan level present [] rs).top
        (mixSteps plan level present [] rs).nom) := by
  simp only [mixSteps, List.map_map, List.contains_nil, and_true]
  exact List.map_congr_left fun r _ => (MemberRec.mixed_eq_steps ..).symm

/-- R47: the top that an update finds is that of its new records. -/
theorem mixSteps_top (plan : Plan) (level : Nat → Int) (present : Nat → Bool) (rs : List MemberRec) :
    (mixSteps plan level present [] rs).top =
      speechTopOf present (mixSteps plan level present [] rs).records := by
  rw [mixSteps_records]
  refine speechTopOf_map_congr _ _ _ _ fun r => ?_
  obtain ⟨hp, hk, -, -⟩ := MemberRec.mixed_identity plan level present (mixSteps plan level present [] rs).top
    (mixSteps plan level present [] rs).nom r
  obtain ⟨hk', hp', hs'⟩ :=
    MemberRec.levelStep_identity plan.releaseRate (level r.position) (present r.position) r
  rw [hp, hk, MemberRec.mixed_s]
  exact ⟨hk', hp', hs'⟩

/-- Settles O14: each record's update is a function of the record, the top and the count alone, and each clause is
the rule of one of its steps. -/
theorem levelsAndGatesFollowTheirRules : Obligations.LevelsAndGatesFollowTheirRules := by
  unfold Obligations.LevelsAndGatesFollowTheirRules
  refine ⟨fun plan level present rs => ?_, fun rate level s hr _ hl hl' _ hs => smooth_range hr hl hl' hs,
    fun _ => rfl⟩
  intro m
  have htop : m.top = speechTopOf present m.records := mixSteps_top ..
  have hrecords : m.records = rs.map (MemberRec.mixed plan level present m.top m.nom) := mixSteps_records ..
  obtain ⟨-, hmax, hattained⟩ := speechTop_foldl_spec present m.records (-480)
  refine ⟨by rw [hrecords, List.length_map], htop ▸ hmax, htop ▸ hattained, fun i r u hr hu => ?_⟩
  have hmix : u = r.mixed plan level present m.top m.nom := by
    rw [hrecords, List.getElem?_map, hr] at hu
    exact (Option.some.inj hu).symm
  obtain ⟨hposition, hkind, htrim, hnew⟩ := hmix ▸ r.mixed_identity plan level present m.top m.nom
  obtain ⟨hbelow, hfloor⟩ := imp_and.mp fun h : r.kind = .speech ∧ present r.position = true =>
    MemberRec.mixed_floor hmix h.1 h.2
  obtain ⟨hcounts, hfloor⟩ := imp_and.mp hfloor
  obtain ⟨hrises, hrests⟩ := imp_and.mp hfloor
  refine ⟨hposition, hkind, htrim, fun hp => (MemberRec.mixed_absent hmix hp).1, fun hp => ?_,
    MemberRec.mixed_ensemble hmix, hbelow, hcounts, hrises, hrests,
    fun h => MemberRec.mixed_gate hmix h.1 h.2, hnew, fun hp => (MemberRec.mixed_absent hmix hp).2,
    fun hp => MemberRec.mixed_gain hmix hp⟩
  rw [hmix, MemberRec.mixed_s, if_pos hp, smooth]

end Sys2Proof.Machine
end

section
/-! PROOF. The ducks at a block boundary (R60): no update of the boundary but that of the ducks themselves moves an
applied duck, and none that follows the mixers moves a duck target. -/

namespace Sys2Proof.Machine

/-! ## What an update keeps of every zone -/

/-- An update of one element that keeps a value of it keeps that value over the list. -/
theorem map_modify_of_keeps {α β : Type} (p : α → β) {g : α → α} (h : ∀ x, p (g x) = p x)
    (l : List α) (i : Nat) : (l.modify i g).map p = l.map p := by
  refine List.ext_getElem (by simp) fun n _ _ => ?_
  rw [List.getElem_map, List.getElem_map, List.getElem_modify]
  split
  · exact h _
  · rfl

/-- An update of every element that keeps a value of each keeps that value over the list. -/
theorem map_mapIdx_of_keeps {α β : Type} (p : α → β) {g : Nat → α → α} (h : ∀ i x, p (g i x) = p x)
    (l : List α) : (l.mapIdx g).map p = l.map p :=
  List.ext_getElem (by simp) fun n _ _ => by simp [h]

/-- Updates that each keep a value keep it one after another. -/
theorem foldl_of_keeps {α σ β : Type} (p : σ → β) {f : σ → α → σ} (h : ∀ t x, p (f t x) = p t)
    (l : List α) (t : σ) : p (l.foldl f t) = p t := by
  induction l generalizing t with
  | nil => rfl
  | cons x l ih => exact (ih (f t x)).trans (h t x)

/-- The updates of a list of numbers that each leave the zones leave them. -/
theorem forEach_zones (l : List Nat) {f : Nat → State → State} (h : ∀ n t, (f n t).zones = t.zones) (s : State) :
    (forEach l f s).zones = s.zones := foldl_of_keeps State.zones (fun t n => h n t) l s

/-- The same of the lines. -/
theorem forLines_zones (l : List OvLine) {f : OvLine → State → State} (h : ∀ n t, (f n t).zones = t.zones)
    (s : State) : (forLines l f s).zones = s.zones := foldl_of_keeps State.zones (fun t n => h n t) l s

/-- Updates that each keep a value of every zone keep it. -/
theorem forEach_zoneParts {β : Type} (p : Zone → β) (l : List Nat) {f : Nat → State → State}
    (h : ∀ n t, (f n t).zones.map p = t.zones.map p) (s : State) :
    (forEach l f s).zones.map p = s.zones.map p :=
  foldl_of_keeps (fun t : State => t.zones.map p) (fun t n => h n t) l s

/-- An update of one zone that keeps a value of it keeps that value of every zone. -/
theorem State.modZone_zoneParts {β : Type} (p : Zone → β) (s : State) (z : Nat) {f : Zone → Zone}
    (h : ∀ r, p (f r) = p r) : (s.modZone z f).zones.map p = s.zones.map p :=
  map_modify_of_keeps p h s.zones z

/-- An update of every zone that keeps a value of each. -/
theorem State.mapZones_zoneParts {β : Type} (p : Zone → β) (s : State) {f : Nat → Zone → Zone}
    (h : ∀ z r, p (f z r) = p r) : (s.mapZones f).zones.map p = s.zones.map p :=
  map_mapIdx_of_keeps p h s.zones

/-- A value that every zone keeps is kept by each. -/
theorem State.zone_of_zoneParts {β : Type} {p : Zone → β} {s t : State} (h : t.zones.map p = s.zones.map p)
    (z : Nat) : p (t.zone z) = p (s.zone z) := by
  simpa only [State.zone, List.getD_map] using congrArg (fun l => l.getD z (p Zone.reset)) h

/-- An update of every zone, read at one of them. -/
theorem State.zone_mapZones (s : State) (f : Nat → Zone → Zone) {z : Nat} (h : z < s.zones.length) :
    (s.mapZones f).zone z = f z (s.zone z) := by
  simp [State.zone, List.getD_eq_getElem?_getD, h]

/-! ## Updates that leave the zones: notices, presence and overrides -/

@[simp] theorem State.flushPosts_zones (s : State) : s.flushPosts.zones = s.zones := by rw [State.flushPosts_frame]

@[simp] theorem State.closeChannels_zones (s : State) : s.closeChannels.zones = s.zones :=
  forEach_zones _ (fun c t => by dsimp only; split <;> simp [State.postPresence]) s

@[simp] theorem State.postPortTurns_zones (s : State) : s.postPortTurns.zones = s.zones :=
  foldl_of_keeps State.zones (f := fun t p => t.postPresence 25 p) (fun _ _ => rfl) s.port.turns _

@[simp] theorem State.sourceTurn_zones (s : State) (source : Source) (p : Presence) :
    (s.sourceTurn source p).zones = s.zones := by
  unfold State.sourceTurn
  split <;> simp

@[simp] theorem State.sourceTurns_zones (s : State) (turns : List (Source × Presence)) :
    (s.sourceTurns turns).1.zones = s.zones :=
  foldl_of_keeps (fun t : State × Bool => t.1.zones) (fun _ _ => by simp) turns (s, false)

@[simp] theorem State.followRequest_zones (s : State) (l : OvLine) : (s.followRequest l).zones = s.zones := by
  unfold State.followRequest
  split <;> simp

@[simp] theorem State.setEvacLatch_zones (s : State) : s.setEvacLatch.zones = s.zones := by
  unfold State.setEvacLatch
  split <;> simp

@[simp] theorem State.sampleLines_zones (s : State) : s.sampleLines.zones = s.zones := by
  have hsampled (f : OvLine → Override → Override) :
      (forLines ovLines (fun l t => t.modOv l (f l)) s).zones = s.zones :=
    forLines_zones _ (fun _ _ => by simp) s
  refine (forLines_zones _ (fun _ _ => by simp) _).trans ((forLines_zones _ (fun _ _ => by simp) _).trans ?_)
  split <;> simp [hsampled]

@[simp] theorem State.startOverride_zones (s : State) (l : OvLine) (d : Option OvLine) (view : Source → Presence) :
    (s.startOverride l d view).zones = s.zones := by
  unfold State.startOverride
  split <;> simp

@[simp] theorem State.loseBus_zones (s : State) (old taker : OvLine) : (s.loseBus old taker).zones = s.zones := by
  simp only [State.loseBus]
  split
  · simp
  · split <;> simp
  · simp

@[simp] theorem State.releaseBus_zones (s : State) (l : OvLine) : (s.releaseBus l).zones = s.zones := rfl

@[simp] theorem State.handOver_zones (s : State) (old taker : OvLine) (view : Source → Presence) :
    (s.handOver old taker view).zones = s.zones := by
  unfold State.handOver
  split <;> simp

@[simp] theorem State.arbitrate_zones (s : State) (view : Source → Presence) : (s.arbitrate view).zones = s.zones := by
  unfold State.arbitrate
  repeat' split
  all_goals simp

@[simp] theorem State.stepCountdowns_zones (s : State) (fresh : Bool) : (s.stepCountdowns fresh).zones = s.zones := by
  simp only [State.stepCountdowns, State.markTurned]
  repeat' split
  all_goals simp

@[simp] theorem State.storeProgramme_zones (s : State) (l : OvLine) (p : Programme) :
    (s.storeProgramme l p).zones = s.zones := by
  unfold State.storeProgramme
  split <;> simp

@[simp] theorem State.withReplaced_zones (s : State) : s.withReplaced.zones = s.zones := by
  unfold State.withReplaced
  split
  · rfl
  · exact forLines_zones _ (fun _ _ => by simp) _

theorem State.underReplaced_zones (s : State) {act : State → State} (h : ∀ t, (act t).zones = t.zones) :
    (s.underReplaced act).zones = s.zones := by
  unfold State.underReplaced
  split
  · exact h s
  · exact (forLines_zones _ (fun _ _ => by simp) _).trans ((h _).trans s.withReplaced_zones)

@[simp] theorem State.controllerBoundary_zones (s : State) (turns : List (Source × Presence))
    (old new : Source → Presence) : (s.controllerBoundary turns old new).zones = s.zones := by
  have hupdate (u : State) (fresh : Bool) (view : Source → Presence) :
      (u.underReplaced fun t => (t.sampleLines.stepCountdowns fresh).arbitrate view).zones = u.zones :=
    u.underReplaced_zones fun t => by simp
  simp only [State.controllerBoundary]
  repeat' split
  all_goals simp [hupdate]

/-- R34, R142: presence and the override controller leave the zones. -/
@[simp] theorem State.presenceAndControl_zones (s : State) : s.presenceAndControl.zones = s.zones := by
  simp [State.presenceAndControl]

/-! ## The events that the last frame left -/

/-- What an event of the last frame leaves of what a boundary finds: the zones and the frame's place in its block. -/
def State.leavesZonesAndFrame (s t : State) : Prop := t.zones = s.zones ∧ t.link.inBlock = s.link.inBlock

theorem State.chainLost_leaves (s : State) : s.leavesZonesAndFrame s.chainLost := by
  unfold State.chainLost
  split <;> exact ⟨rfl, rfl⟩

theorem State.chainRegained_leaves (s : State) : s.leavesZonesAndFrame s.chainRegained := by
  unfold State.chainRegained
  split <;> exact ⟨rfl, rfl⟩

theorem State.postLost_leaves (s : State) (n : Nat) : s.leavesZonesAndFrame (s.postLost n) := by
  unfold State.postLost
  split <;> exact ⟨rfl, rfl⟩

theorem State.provingLock_leaves (s : State) : s.leavesZonesAndFrame s.provingLock := by
  unfold State.provingLock
  split <;> exact ⟨rfl, rfl⟩

theorem State.provingLoss_leaves (s : State) : s.leavesZonesAndFrame s.provingLoss := by
  unfold State.provingLoss
  split
  · exact s.postLost_leaves s.link.stamp
  · exact ⟨rfl, rfl⟩

theorem State.provingWindowEnd_leaves (s : State) : s.leavesZonesAndFrame s.provingWindowEnd := by
  unfold State.provingWindowEnd
  split <;> exact ⟨rfl, rfl⟩

theorem State.leavesZonesAndFrame.trans {s t u : State} (h : s.leavesZonesAndFrame t) (h' : t.leavesZonesAndFrame u) :
    s.leavesZonesAndFrame u := ⟨h'.1.trans h.1, h'.2.trans h.2⟩

/-- The events that the last frame left, and their notices. -/
theorem State.settle_leaves (s : State) : s.leavesZonesAndFrame s.settle := by
  have hport (t : State) : t.leavesZonesAndFrame t.portAbsent := ⟨rfl, rfl⟩
  have hflush (t : State) : t.leavesZonesAndFrame t.flushPosts := by
    rw [State.flushPosts_frame]
    exact ⟨rfl, rfl⟩
  exact s.chainLost_leaves.trans <| (State.chainRegained_leaves _).trans <| (hport _).trans <|
    (State.provingLock_leaves _).trans <| (State.provingLoss_leaves _).trans <|
    (State.provingWindowEnd_leaves _).trans (hflush _)

/-! ## Updates that leave the zones: taps, decisions and settings -/

@[simp] theorem State.restartDetector_zones (s : State) : s.restartDetector.zones = s.zones := by
  obtain ⟨hzones, -⟩ := s.postLost_leaves s.link.counter
  unfold State.restartDetector
  split
  · exact hzones
  · rfl

@[simp] theorem State.reportTap_zones (s : State) (b : Block) (z n tap : Nat) :
    (s.reportTap b z n tap).zones = s.zones := by
  unfold State.reportTap
  split <;> rfl

@[simp] theorem State.reportSteered_zones (s : State) (b z : Nat) : (s.reportSteered b z).zones = s.zones :=
  s.reportTap_zones ..

@[simp] theorem State.reportTaps_zones (s : State) (b : Nat) (zs : List Nat) : (s.reportTaps b zs).zones = s.zones :=
  forEach_zones zs (fun _ _ => by simp) s

@[simp] theorem State.startDip_zones (s : State) (c a : Nat) : (s.startDip c a).zones = s.zones := rfl

@[simp] theorem State.startCrossfade_zones (s : State) (b : Nat) : (s.startCrossfade b).zones = s.zones := by
  simp [State.startCrossfade]

@[simp] theorem State.servePending_zones (s : State) (b : Nat) : (s.servePending b).zones = s.zones := by
  simp only [State.servePending]
  split <;> simp

@[simp] theorem State.retuneCheck_zones (s : State) (b : Nat) : (s.retuneCheck b).zones = s.zones := by
  simp only [State.retuneCheck]
  split <;> simp

@[simp] theorem State.startWaitingDip_zones (s : State) (c : Nat) : (s.startWaitingDip c).zones = s.zones := by
  unfold State.startWaitingDip
  repeat' split
  all_goals simp

@[simp] theorem State.decideSettled_zones (s : State) (b : Nat) : (s.decideSettled b).zones = s.zones := by
  unfold State.decideSettled State.decision
  repeat' split
  all_goals simp

@[simp] theorem State.decisionAfterReset_zones (s : State) (b : Nat) : (s.decisionAfterReset b).zones = s.zones := by
  unfold State.decisionAfterReset
  repeat' split
  all_goals simp

@[simp] theorem State.release_zones (s : State) (b : Nat) (zs : List Affected) : (s.release b zs).zones = s.zones :=
  forEach_zones _ (fun _ _ => by
    repeat' split
    all_goals simp) s

@[simp] theorem State.restCancelDecision_zones (s : State) (b : Nat) : (s.restCancelDecision b).zones = s.zones := by
  unfold State.restCancelDecision
  split <;> simp

@[simp] theorem State.releaseCheck_zones (s : State) (b : Nat) : (s.releaseCheck b).zones = s.zones := by
  simp only [State.releaseCheck]
  repeat' split
  all_goals simp

@[simp] theorem State.boundaryDip_zones (s : State) (c : Nat) : (s.boundaryDip c).zones = s.zones := by
  unfold State.boundaryDip
  split <;> simp

@[simp] theorem State.takeDueRequest_zones (s : State) (b : Nat) : (s.takeDueRequest b).zones = s.zones := by
  simp only [State.takeDueRequest, State.steeringRequest]
  repeat' split
  all_goals simp

@[simp] theorem State.checkLead_zones (s : State) (a : Nat) : (s.checkLead a).zones = s.zones := by
  unfold State.checkLead
  split <;> simp

@[simp] theorem State.powerUpDone_zones (s : State) (code : OutcomeCode) : (s.powerUpDone code).zones = s.zones := rfl

@[simp] theorem State.setLengths_zones (s : State) (lengths : List Nat) : (s.setLengths lengths).zones = s.zones := rfl

@[simp] theorem State.allocationClearEnd_zones (s : State) : s.allocationClearEnd.zones = s.zones := rfl

@[simp] theorem State.resetAudioEnd_zones (s : State) : s.resetAudioEnd.zones = s.zones :=
  (forEach_zones areaIndexes (fun b t => t.decisionAfterReset_zones b) _).trans (by simp)

@[simp] theorem State.loadMap_zones (s : State) (m : SlotMap) : (s.loadMap m).zones = s.zones := by
  have hmap : (s.installMap true m).zones = s.zones :=
    forEach_zones _ (fun c t => by
      simp only [State.entryChanged, State.postPresence]
      repeat' split
      all_goals simp) _
  simp only [State.loadMap]
  split <;> simp [hmap]

@[simp] theorem State.turnByRequest_zones (s : State) (l : OvLine) : (s.turnByRequest l).zones = s.zones := by
  simp only [State.turnByRequest, State.markTurned]
  split <;> simp

@[simp] theorem State.endActiveO_zones (s : State) : s.endActiveO.zones = s.zones := by
  unfold State.endActiveO
  split <;> simp

@[simp] theorem State.setEnable_zones (s : State) (enable : Bool) : (s.setEnable enable).zones = s.zones := by
  unfold State.setEnable
  repeat' split
  · rfl
  · rfl
  · exact (forLines_zones oLines (fun _ _ => by simp) _).trans s.endActiveO_zones

@[simp] theorem State.installEnable_zones (s : State) (enable : Bool) : (s.installEnable enable).zones = s.zones := by
  simp only [State.installEnable, State.markTurned]
  split <;> simp

/-! ## Updates that keep the applied ducks (R60): taps, plans and records -/

theorem State.formTaps_duck (s : State) (b : Nat) (zs : List Nat) :
    (s.formTaps b zs).zones.map Zone.duck = s.zones.map Zone.duck :=
  forEach_zoneParts Zone.duck zs
    (fun z t => (State.modZone_zoneParts Zone.duck _ z fun _ => by rfl).trans (by simp)) s

theorem State.dropPaths_zoneParts {β : Type} (p : Zone → β) (h : ∀ r : Zone, p { r with progress := 0 } = p r)
    (s : State) : s.dropPaths.zones.map p = s.zones.map p :=
  s.mapZones_zoneParts p fun _ r => by
    split
    · exact h r
    · rfl

@[simp] theorem State.dropPaths_duck (s : State) : s.dropPaths.zones.map Zone.duck = s.zones.map Zone.duck :=
  s.dropPaths_zoneParts Zone.duck fun _ => rfl

@[simp] theorem State.syncMixers_duck (s : State) : s.syncMixers.zones.map Zone.duck = s.zones.map Zone.duck := by
  refine (State.mapZones_zoneParts Zone.duck _ fun _ _ => ?_).trans
    (congrArg _ (forEach_zones areaIndexes (fun _ _ => by simp) s))
  split <;> rfl

@[simp] theorem State.takeHeld_duck (s : State) (a : Nat) :
    (s.takeHeld a).1.zones.map Zone.duck = s.zones.map Zone.duck := by
  have happly : (s.applyPlan a).zones.map Zone.duck = s.zones.map Zone.duck := by
    simp only [State.applyPlan]
    repeat' split
    all_goals simp
  unfold State.takeHeld
  split <;> simp [happly]

@[simp] theorem State.applyDormantTake_duck (s : State) (a : Nat) :
    (s.applyDormantTake a).zones.map Zone.duck = s.zones.map Zone.duck := by
  unfold State.applyDormantTake
  split <;> simp

@[simp] theorem State.applyDormantTakes_duck (s : State) :
    s.applyDormantTakes.zones.map Zone.duck = s.zones.map Zone.duck :=
  forEach_zoneParts Zone.duck areaIndexes (fun a t => t.applyDormantTake_duck a) s

@[simp] theorem State.restFadeEnd_duck (s : State) (a : Nat) :
    (s.restFadeEnd a).zones.map Zone.duck = s.zones.map Zone.duck := by
  simp [State.restFadeEnd]

@[simp] theorem State.restStep_duck (s : State) (a : Nat) :
    (s.restStep a).zones.map Zone.duck = s.zones.map Zone.duck := by
  unfold State.restStep
  split <;> simp

@[simp] theorem State.wake_duck (s : State) (b : Nat) : (s.wake b).zones.map Zone.duck = s.zones.map Zone.duck := by
  simp only [State.wake]
  split <;> simp [State.formTaps_duck]

/-! ## The long operations of a boundary keep the applied ducks -/

@[simp] theorem State.flushEnd_duck (s : State) : s.flushEnd.zones.map Zone.duck = s.zones.map Zone.duck := by
  have hzero (t : State) (k : Nat) : (t.zeroLine k).zones = t.zones := rfl
  unfold State.flushEnd State.endFlush
  split
  · rfl
  · dsimp only
    split <;> simp [State.formTaps_duck, hzero]

@[simp] theorem State.imageSaveEnd_duck (s : State) :
    s.imageSaveEnd.zones.map Zone.duck = s.zones.map Zone.duck := by
  have hdips (t : State) : t.startWaitingDips.zones = t.zones :=
    forEach_zones areaIndexes (fun c t => t.startWaitingDip_zones c) t
  unfold State.imageSaveEnd
  split <;> simp [hdips]

@[simp] theorem State.loadFirstPassEnd_duck (s : State) :
    s.loadFirstPassEnd.zones.map Zone.duck = s.zones.map Zone.duck := by
  simp only [State.loadFirstPassEnd]
  repeat' split
  all_goals simp

theorem State.installImage_duck (s : State) (d : ImageData) :
    (s.installImage d).zones.map Zone.duck = s.zones.map Zone.duck := by
  have hlimit (t : State) : t.limitAnnounceTaps.zones.map Zone.duck = t.zones.map Zone.duck :=
    forEach_zoneParts Zone.duck _
      (fun z u => (State.modZone_zoneParts Zone.duck _ z fun _ => by rfl).trans (by simp)) t
  have hstore (t : State) (f : OvLine → Programme) :
      (forLines ovLines (fun l t => t.storeProgramme l (f l)) t).zones = t.zones :=
    forLines_zones _ (fun _ _ => by simp) t
  have hhomes (l : List Zone) (f : Nat → Mode) :
      (l.mapIdx fun z r => { r with home := f z }).map Zone.duck = l.map Zone.duck :=
    map_mapIdx_of_keeps Zone.duck (fun _ _ => by rfl) l
  simp only [State.installImage]
  rw [hlimit, hhomes]
  simp [hstore]

@[simp] theorem State.wakeStarters_duck (s : State) :
    s.wakeStarters.1.zones.map Zone.duck = s.zones.map Zone.duck := by
  unfold State.wakeStarters
  split
  · rfl
  · exact forEach_zoneParts Zone.duck _ (fun a t => t.wake_duck a) s

@[simp] theorem State.loadSecondPassEnd_duck (s : State) :
    s.loadSecondPassEnd.zones.map Zone.duck = s.zones.map Zone.duck := by
  simp only [State.loadSecondPassEnd, State.markSettings]
  repeat' split
  all_goals simp [State.installImage_duck]

@[simp] theorem State.installFallback_duck (s : State) :
    s.installFallback.zones.map Zone.duck = s.zones.map Zone.duck := by
  simp only [State.installFallback, State.powerUpDone_zones, State.wake_duck]
  exact map_mapIdx_of_keeps Zone.duck (fun _ _ => by rfl) _

/-- R85, R104, R106, R188 to R191: the long operations at a boundary. -/
@[simp] theorem State.tickLong_duck (s : State) : s.tickLong.zones.map Zone.duck = s.zones.map Zone.duck := by
  have hallocation (t : State) : t.tickAllocation.zones = t.zones := by
    unfold State.tickAllocation
    repeat' split
    all_goals simp
  have hflush (t : State) : t.tickFlush.zones.map Zone.duck = t.zones.map Zone.duck := by
    unfold State.tickFlush
    repeat' split
    all_goals simp
  have hreset (t : State) : t.tickReset.zones = t.zones := by
    unfold State.tickReset
    repeat' split
    all_goals simp
  have hsave (t : State) : t.tickSave.zones.map Zone.duck = t.zones.map Zone.duck := by
    unfold State.tickSave
    repeat' split
    all_goals simp
  have hload (t : State) : t.tickLoad.zones.map Zone.duck = t.zones.map Zone.duck := by
    unfold State.tickLoad State.loadPassEnd
    repeat' split
    all_goals simp
  have hfallback (t : State) : t.tickFallback.zones.map Zone.duck = t.zones.map Zone.duck := by
    unfold State.tickFallback
    split <;> simp
  rw [State.tickLong, hfallback, hload, hsave, hreset, hflush, hallocation]

/-! ## The steering unit keeps the applied ducks -/

@[simp] theorem State.transitionComplete_duck (s : State) (b : Nat) :
    (s.transitionComplete b).zones.map Zone.duck = s.zones.map Zone.duck := by
  have htaps (zs : List Affected) (tap : Affected → Option Nat) :
      (s.settleTaps zs tap).zones.map Zone.duck = s.zones.map Zone.duck :=
    foldl_of_keeps (fun t : State => t.zones.map Zone.duck)
      (f := fun (t : State) (f : Affected) => t.modZone f.zone fun r => { r with tap := tap f, dipWeight := 4096 })
      (fun t f => t.modZone_zoneParts Zone.duck f.zone fun _ => by rfl) zs s
  simp only [State.transitionComplete]
  repeat' split
  all_goals simp [htaps]

theorem State.dropTaps_duck (s : State) (b : Nat) :
    (s.dropTaps b).zones.map Zone.duck = s.zones.map Zone.duck :=
  s.mapZones_zoneParts Zone.duck fun _ _ => by split <;> rfl

theorem Zone.midpointUp_duck (r : Zone) : r.midpointUp.duck = r.duck := by
  unfold Zone.midpointUp
  split <;> rfl

/-- R92, R118: what a midpoint does with one affected zone. -/
theorem State.midpointZone_duck (s w : State) (z : Nat) :
    (if w.pathAvailable z && !s.pathAvailable z then w.modZone z Zone.midpointUp else w).zones.map Zone.duck =
      w.zones.map Zone.duck := by
  split
  · exact w.modZone_zoneParts Zone.duck z Zone.midpointUp_duck
  · rfl

@[simp] theorem State.dipMidpoint_duck (s : State) (b : Nat) :
    (s.dipMidpoint b).zones.map Zone.duck = s.zones.map Zone.duck := by
  have hforget (w : State) (z : Nat) :
      (if (w.zoneArea z).isNone then w.modZone z fun r => { r with tap := none } else w).zones.map Zone.duck =
        w.zones.map Zone.duck := by
    split
    · exact w.modZone_zoneParts Zone.duck z fun _ => rfl
    · rfl
  have htake (c : Bool) (a : Nat) :
      (if c then s.takeHeld a else (s, false)).1.zones.map Zone.duck = s.zones.map Zone.duck := by
    split <;> simp
  have hdrop (c : Bool) (v : State) :
      (if c then v.dropTaps b else v).zones.map Zone.duck = v.zones.map Zone.duck := by
    split
    · exact v.dropTaps_duck b
    · rfl
  unfold State.dipMidpoint
  split
  · rfl
  · split
    · dsimp only
      rw [State.dropPaths_duck, forEach_zoneParts Zone.duck _ fun z w =>
        (State.midpointZone_duck s _ z).trans (hforget w z), hdrop,
        State.modArea_zones, forEach_zones _ fun z w => by split <;> simp]
      exact htake ..
    · rfl

/-- R88: what goes before the requests of a boundary. -/
@[simp] theorem State.steerFirst_duck (s : State) :
    s.steerFirst.zones.map Zone.duck = s.zones.map Zone.duck := by
  simp only [State.steerFirst]
  rw [forEach_zones _ fun b t => t.boundaryDip_zones b, forEach_zones _ fun b t => t.releaseCheck_zones b,
    forEach_zones _ fun b t => t.restCancelDecision_zones b,
    forEach_zoneParts _ _ fun b t => t.transitionComplete_duck b,
    forEach_zoneParts _ _ fun b t => t.dipMidpoint_duck b]

@[simp] theorem State.steerBoundary_duck (s : State) :
    s.steerBoundary.zones.map Zone.duck = s.zones.map Zone.duck := by
  rw [State.steerBoundary, forEach_zones _ fun b t => t.takeDueRequest_zones b, s.steerFirst_duck]

/-- R74, R88, R96: the walk step and the steering unit at a boundary. -/
@[simp] theorem State.walkAndSteer_duck (s : State) :
    s.walkAndSteer.zones.map Zone.duck = s.zones.map Zone.duck := by
  have hchecks (t : State) : t.settledChecks.zones = t.zones :=
    forEach_zones areaIndexes (fun b u => by split <;> simp) t
  simp only [State.walkAndSteer]
  repeat' split
  all_goals simp [hchecks, State.walkStep]

/-! ## The mixers and the ducks (R43, R60) -/

theorem State.mixArea_zones (s : State) (level : Nat → Int) (present : Nat → Bool) (b : Nat) :
    (s.mixArea level present b).zones = s.zones := by
  simp only [State.mixArea, State.changeLead]
  repeat' split
  all_goals simp

theorem State.mixBoundary_duck (s : State) (level : Nat → Int) (present : Nat → Bool) :
    (s.mixBoundary level present).zones.map Zone.duck = s.zones.map Zone.duck :=
  (State.mapZones_zoneParts Zone.duck _ fun _ _ => by rfl).trans <| congrArg _ <|
    forEach_zones areaIndexes (fun b t => by
      split
      · exact t.mixArea_zones level present b
      · rfl) s

/-- R60: the update of the ducks moves each zone's duck toward the target that the mixers have set. -/
theorem State.mixAll_duck (s : State) {z : Nat} (h : z < s.zones.length) :
    (s.mixAll.zone z).duck = duckStep (s.zone z).duck (s.mixAll.zone z).duckTarget := by
  have hmix (level : Nat → Int) (present : Nat → Bool) :
      (if s.mixing then s.mixBoundary level present else s).zones.map Zone.duck = s.zones.map Zone.duck := by
    split
    · exact s.mixBoundary_duck level present
    · rfl
  unfold State.mixAll State.duckBoundary
  dsimp only
  rw [State.zone_mapZones]
  · dsimp only
    rw [State.zone_of_zoneParts (hmix _ _)]
  · rwa [← List.length_map (f := Zone.duck), hmix, List.length_map]

/-! ## What follows the mixers keeps ducks and targets (R111 to R120) -/

/-- R60: what a zone's record holds of its duck. -/
def Zone.ducks (r : Zone) : Int × Int := (r.duck, r.duckTarget)

namespace Zone

@[simp] theorem setLength_ducks (r : Zone) (m : Nat) : (r.setLength m).ducks = r.ducks := by
  unfold setLength
  split <;> rfl

@[simp] theorem setShort_ducks (r : Zone) (b : Bool) : (r.setShort b).ducks = r.ducks :=
  setLength_ducks ..

@[simp] theorem setShortOut_ducks (r : Zone) (b : Bool) : (r.setShortOut b).ducks = r.ducks := by
  unfold setShortOut
  split
  · rfl
  · exact r.setShort_ducks b

/-- R116: a change in flight under its wanted mode. -/
theorem alterChange_ducks (r : Zone) (y : Mode) (reentry : Bool) (holder : Option OvLine) :
    (r.alterChange y reentry holder).1.ducks = r.ducks := by
  unfold alterChange
  split
  · split
    · exact setShort_ducks ..
    · exact setShortOut_ducks ..
  · repeat' split
    all_goals rfl
  all_goals rfl

/-- R114: a change that begins. -/
theorem beginChange_ducks (r : Zone) (x : Mode) (holder : Option OvLine) :
    (r.beginChange x holder).ducks = r.ducks := by
  simp only [beginChange]
  split
  iterate 3 exact setShortOut_ducks ..
  · split <;> rfl
  · rfl

/-- R118: a LIVE zone that follows its goal. -/
theorem followGoal_ducks (r : Zone) (sounding : Bool) (restCount : Nat) :
    (r.followGoal sounding restCount).ducks = r.ducks := by
  unfold followGoal beginRestFade
  split
  · split
    · split
      · rfl
      · exact setLength_ducks ..
    · rfl
  · split
    · rfl
    · split
      · rfl
      · exact setLength_ducks ..

/-- R115: the end of a fade-in. -/
theorem fadeInEnd_ducks (r : Zone) : r.fadeInEnd.ducks = r.ducks := by
  unfold fadeInEnd
  split <;> rfl

end Zone

/-- A zone that takes a record of the same ducks keeps them. -/
theorem State.modZone_const_ducks (s : State) (z : Nat) {q : Zone} (h : q.ducks = (s.zone z).ducks) :
    (s.modZone z fun _ => q).zones.map Zone.ducks = s.zones.map Zone.ducks := by
  refine List.ext_getElem (by simp) fun i hi hi' => ?_
  simp only [State.modZone_zones, List.getElem_map, List.getElem_modify]
  split
  · next hz =>
    subst hz
    rw [h, State.zone, List.getD_eq_getElem]
  · rfl

@[simp] theorem State.enterAnnounce_ducks (s : State) (z : Nat) :
    (s.enterAnnounce z).zones.map Zone.ducks = s.zones.map Zone.ducks := by
  have hkeep (t : State) (f : Zone → Zone) (h : ∀ r, (f r).ducks = r.ducks) :
      (t.modZone z f).zones.map Zone.ducks = t.zones.map Zone.ducks := t.modZone_zoneParts Zone.ducks z h
  unfold State.enterAnnounce
  dsimp only
  split
  · rw [hkeep _ _ fun _ => by rfl, hkeep _ _ fun _ => by rfl]
  · rw [hkeep _ _ fun _ => by rfl, State.reportTap_zones, hkeep _ _ fun _ => by rfl]

/-- R115: the switch of a zone. -/
@[simp] theorem State.switchZone_ducks (s : State) (z : Nat) (x : Mode) :
    (s.switchZone z x).zones.map Zone.ducks = s.zones.map Zone.ducks := by
  have hswitched (sounding : Bool) :
      (s.modZone z fun r => r.switched x sounding).zones.map Zone.ducks = s.zones.map Zone.ducks :=
    s.modZone_zoneParts Zone.ducks z fun _ => by rfl
  unfold State.switchZone
  dsimp only
  split
  · split
    · split
      · rw [State.restartDetector_zones, hswitched]
      · exact hswitched _
    · exact hswitched _
  · rw [State.enterAnnounce_ducks, hswitched]
  all_goals exact hswitched _

@[simp] theorem State.fadeOutEnd_ducks (s : State) (z : Nat) :
    (s.fadeOutEnd z).zones.map Zone.ducks = s.zones.map Zone.ducks := by
  unfold State.fadeOutEnd
  dsimp only
  split
  · split
    · split
      · exact s.modZone_zoneParts Zone.ducks z fun _ => by rfl
      · exact s.switchZone_ducks z _
    · rfl
  · rfl

@[simp] theorem State.settleTick_ducks (s : State) (z : Nat) :
    (s.settleTick z).zones.map Zone.ducks = s.zones.map Zone.ducks := by
  have hend : (s.settleEnd z).zones.map Zone.ducks = s.zones.map Zone.ducks := by
    unfold State.settleEnd
    split
    · exact s.modZone_zoneParts Zone.ducks z fun _ => by rfl
    · exact s.modZone_zoneParts Zone.ducks z fun _ => by rfl
    · exact s.switchZone_ducks z _
  unfold State.settleTick
  dsimp only
  split
  · split
    · exact hend
    · exact s.modZone_zoneParts Zone.ducks z fun _ => by rfl
  · rfl

/-- R114, R116, R118: a zone takes its wanted mode. -/
@[simp] theorem State.takeWanted_ducks (s : State) (y : Mode) (z : Nat) :
    (s.takeWanted y z).1.zones.map Zone.ducks = s.zones.map Zone.ducks := by
  have halter := s.modZone_const_ducks z ((s.zone z).alterChange_ducks y (s.reentryDue y z) s.holder)
  unfold State.takeWanted
  dsimp only
  split
  · split
    · rw [State.switchZone_ducks, halter]
    · exact halter
  · split
    · exact s.modZone_const_ducks z ((s.zone z).beginChange_ducks y s.holder)
    · split
      · exact s.modZone_zoneParts Zone.ducks z fun r => r.followGoal_ducks _ _
      · rfl

@[simp] theorem State.deriveWanted_ducks (s : State) (standby : Bool) (z : Nat) :
    (s.deriveWanted standby z).zones.map Zone.ducks = s.zones.map Zone.ducks :=
  s.modZone_zoneParts Zone.ducks z fun _ => by rfl

/-- Chapter 6: one zone at a boundary. -/
@[simp] theorem State.zoneBoundary_ducks (s : State) (standby : Bool) (z : Nat) :
    (s.zoneBoundary standby z).zones.map Zone.ducks = s.zones.map Zone.ducks := by
  have htaken := (State.takeWanted_ducks (s.deriveWanted standby z) (s.wantedMode standby z).1 z).trans
    (s.deriveWanted_ducks standby z)
  unfold State.zoneBoundary
  dsimp only
  split
  · split
    · exact htaken
    · rw [State.settleTick_ducks, htaken]
  · split
    · rw [State.fadeOutEnd_ducks, htaken]
    · rw [State.modZone_zoneParts Zone.ducks _ z Zone.fadeInEnd_ducks, htaken]

/-- Chapter 6: every zone at a boundary. -/
theorem State.zonesBoundary_ducks (s : State) (standby : Bool) :
    (s.zonesBoundary standby).zones.map Zone.ducks = s.zones.map Zone.ducks := by
  unfold State.zonesBoundary
  split
  · exact forEach_zoneParts Zone.ducks _ (fun z t => t.deriveWanted_ducks standby z) s
  · rw [forEach_zoneParts Zone.ducks _ fun z t => t.zoneBoundary_ducks standby z,
      s.dropPaths_zoneParts Zone.ducks fun _ => rfl]

@[simp] theorem State.takeStandby_zones (s : State) (standby : Bool) : (s.takeStandby standby).zones = s.zones := by
  simp only [State.takeStandby]
  split <;> simp

@[simp] theorem State.releaseAtSwitch_zones (s : State) : s.releaseAtSwitch.zones = s.zones := by
  simp only [State.releaseAtSwitch]
  repeat' split
  all_goals simp

/-! ## The boundary (R1, R60) -/

/-- R1: what the mixers find at a boundary: presence, overrides, rest fades, long operations and steering done. -/
def State.beforeMixers (s : State) : State :=
  let t := s.presenceAndControl
  let t := { t with choices := t.choices + 1 }
  (forEach areaIndexes (fun a u => u.restStep a) t).tickLong.walkAndSteer

/-- R60: the mixers of a boundary find the applied ducks as the block before left them. -/
theorem State.beforeMixers_duck (s : State) : s.beforeMixers.zones.map Zone.duck = s.zones.map Zone.duck := by
  unfold State.beforeMixers
  dsimp only
  rw [State.walkAndSteer_duck, State.tickLong_duck, forEach_zoneParts Zone.duck _ fun a u => u.restStep_duck a]
  exact congrArg _ s.presenceAndControl_zones

/-- R60: a boundary leaves ducks and duck targets as the mixers and the ducks' own update leave them. -/
theorem State.boundary_ducks (s : State) :
    s.boundary.zones.map Zone.ducks = s.beforeMixers.mixAll.zones.map Zone.ducks := by
  have hbegin (t : State) : t.beginBlock.zones = t.zones := rfl
  unfold State.boundary
  dsimp only
  rw [hbegin, State.releaseAtSwitch_zones, State.zonesBoundary_ducks, State.takeStandby_zones]
  rfl

/-- R60: at a boundary each zone's duck moves toward the target that the boundary sets. -/
theorem State.boundary_duck (s : State) {z : Nat} (h : z < s.zones.length) :
    (s.boundary.zone z).duck = duckStep (s.zone z).duck (s.boundary.zone z).duckTarget := by
  have hlength : z < s.beforeMixers.zones.length := by
    rwa [← List.length_map (f := Zone.duck), s.beforeMixers_duck, List.length_map]
  have hbefore : (s.beforeMixers.zone z).duck = (s.zone z).duck := State.zone_of_zoneParts s.beforeMixers_duck z
  obtain ⟨hduck, htarget⟩ := Prod.ext_iff.mp (State.zone_of_zoneParts s.boundary_ducks z)
  simp only [Zone.ducks] at hduck htarget
  rw [hduck, htarget, s.beforeMixers.mixAll_duck hlength, hbefore]

/-- R60: a step toward a target of the range stays in the range. -/
theorem duckStep_range {duck target : Int} (hd : 0 ≤ duck) (hd' : duck ≤ 120) (ht : 0 ≤ target)
    (ht' : target ≤ 120) : 0 ≤ duckStep duck target ∧ duckStep duck target ≤ 120 := by
  unfold duckStep
  omega

/-- A boundary after the 48th frame takes the events that the last frame left, and then its update. -/
theorem exec_blockBoundary {s : State} (hp : s.powered = true) (hb : s.link.inBlock = 48) :
    exec .blockBoundary s = .next s.settle.boundary.flushPosts := by
  obtain ⟨-, hframe⟩ := s.settle_leaves
  have hdue : s.settle.atBoundary = true := by rw [State.atBoundary, hframe, hb]; rfl
  refine congrArg Host.Outcome.next ?_
  rw [State.boundaryEvent, hp, hdue]
  rfl

/-- Settles O15: of all the updates of a boundary the ducks' own alone moves an applied duck, by a step toward the
target that the mixers before it have set. -/
theorem duckFollowsItsTarget : Obligations.DuckFollowsItsTarget := by
  unfold Obligations.DuckFollowsItsTarget
  intro s hp hb hlength
  refine ⟨_, exec_blockBoundary hp hb, fun z hz => ?_⟩
  obtain ⟨hzones, -⟩ := s.settle_leaves
  have hzone (t : State) : t.flushPosts.zone z = t.zone z := by
    rw [State.zone, State.flushPosts_zones, State.zone]
  have hold : s.settle.zone z = s.zone z := by rw [State.zone, hzones, State.zone]
  have hstep := s.settle.boundary_duck (z := z) (by rwa [hzones, hlength])
  rw [hold] at hstep
  rw [hzone, hstep]
  exact ⟨rfl, duckStep_range⟩

end Sys2Proof.Machine
end

section
/-! PROOF. The speed of sound (R70) and the geometric delay (R71): their rounding (R4) is a floor in the rationals,
and it keeps the order, so that their ranges are read off at the ends. -/

namespace Sys2Proof.Machine

/-! ## Rounding (R4) -/

/-- R4: the rounded quotient is the floor of the quotient and a half. -/
theorem roundDiv_eq_floor (a : Int) {b : Nat} (hb : 0 < b) : roundDiv a b = ⌊(a : ℚ) / b + 1 / 2⌋ := by
  have hb' : (b : ℚ) ≠ 0 := by exact_mod_cast hb.ne'
  have hquot : (a : ℚ) / b + 1 / 2 = ((2 * a + b : Int) : ℚ) / ((2 * b : Nat) : ℚ) := by
    push_cast
    field_simp
  rw [hquot, Rat.floor_intCast_div_natCast, roundDiv]
  push_cast
  rfl

/-- R4: a greater dividend rounds to no less. -/
theorem roundDiv_mono {a a' : Int} (h : a ≤ a') {b : Nat} (hb : 0 < b) : roundDiv a b ≤ roundDiv a' b :=
  Int.ediv_le_ediv (by omega) (by omega)

/-- R4: a quotient below a whole number and a half rounds to that number at most. -/
theorem roundDiv_le {a r : Int} {b : Nat} (hb : 0 < b) (h : 2 * a < (2 * r + 1) * b) : roundDiv a b ≤ r := by
  refine Int.lt_add_one_iff.mp (Int.ediv_lt_of_lt_mul (by omega) ?_)
  linarith

/-- R4: a dividend that is not negative rounds to no negative number. -/
theorem roundDiv_nonneg {a : Int} (ha : 0 ≤ a) (b : Nat) : 0 ≤ roundDiv a b :=
  Int.ediv_nonneg (by omega) (by omega)

/-! ## The speed of sound (R70) -/

/-- R70: warmer air carries sound no slower. -/
theorem speedOfSound_mono {t t' : Int} (h : t ≤ t') : speedOfSound t ≤ speedOfSound t' :=
  Int.add_le_add_left (roundDiv_mono (by omega) (by decide)) 33130

/-- R70: the speeds at the coldest and the warmest T_used. -/
theorem speedOfSound_ends : speedOfSound (-100) = 32524 ∧ speedOfSound 400 = 35554 := by decide

/-- R70: the range of the speed of sound over the range of T_used. -/
theorem speedOfSound_range {t : Int} (h : -100 ≤ t) (h' : t ≤ 400) :
    32524 ≤ speedOfSound t ∧ speedOfSound t ≤ 35554 := by
  obtain ⟨hcold, hwarm⟩ := speedOfSound_ends
  exact ⟨hcold ▸ speedOfSound_mono h, hwarm ▸ speedOfSound_mono h'⟩

/-! ## The geometric delay (R71) -/

/-- R71: the delay of a present distance is the rounded quotient itself, which is never negative. -/
theorem geometricDelay_some (s : Nat) (c : Int) :
    (geometricDelay (some s) c : Int) = roundDiv ((s : Int) * 48000) c.toNat := by
  rw [geometricDelay, Int.toNat_of_nonneg (roundDiv_nonneg (by omega) _)]

/-- R71: the longest delay is that of the greatest distance at the least speed. -/
theorem geometricDelay_le {s : Nat} {c : Int} (hs : s ≤ 20000) (hc : 32524 ≤ c) :
    geometricDelay (some s) c ≤ 29517 := by
  have hround : roundDiv ((s : Int) * 48000) c.toNat ≤ 29517 := roundDiv_le (by omega) (by omega)
  rw [← geometricDelay_some] at hround
  exact_mod_cast hround

/-- R71, R74: a recomputed entry holds the delay of its distance at the speed that T_used gives. -/
theorem DelayComputer.delay_recompute (d : DelayComputer) {i : Nat} (h : i < d.delays.length) :
    (d.recompute i).delays.getD i 0 = geometricDelay (d.distances.getD i none) d.speed := by
  simp [DelayComputer.recompute, h]

/-- Settles O11: both rules are a rounded quotient, so the rounding as a floor gives their values and its order
their ranges; the delay computer's recomputed entry reads both. -/
theorem delayFromDistanceAndTemperature : Obligations.DelayFromDistanceAndTemperature := by
  unfold Obligations.DelayFromDistanceAndTemperature
  refine ⟨fun t => ?speed, fun t => speedOfSound_range, by decide, fun c => rfl, fun s c hc => ?delay,
    fun s c => geometricDelay_le, fun d => rfl, fun d i => d.delay_recompute⟩
  case speed =>
    rw [speedOfSound, roundDiv_eq_floor _ (by decide)]
    push_cast
    rfl
  case delay =>
    have hcast : (c.toNat : ℚ) = c := by exact_mod_cast Int.toNat_of_nonneg hc.le
    rw [geometricDelay_some, roundDiv_eq_floor _ (by omega), hcast]
    push_cast
    rfl

end Sys2Proof.Machine
end
